-- ==== Sys2Proof/Word.lean ====
section
/-! DEFINITION. The word types of the acid-303 audio core (AC303).

Spec: 00_scope.md R6 (bit numbering), R7 (binary32), 30_encoding.md R80 (the command word). -/

namespace Sys2Proof

/-- One IEEE 754 binary32 value as its 32 bits: sign bit 31, biased exponent bits 30 to 23, fraction
bits 22 to 0 (R7). Its arithmetic is in `Sys2Proof/Machine/F32.lean`; the integer arithmetic that
`BitVec` brings is never used on it. -/
abbrev F32 := BitVec 32

/-- One command word `CW[39:0]` (R80): opcode in bits 39 to 32, operand in bits 31 to 0. -/
abbrev CmdWord := BitVec 40

/-- The opcode field `CW[39:32]` (R80). -/
def opcodeOf (w : CmdWord) : BitVec 8 := w.extractLsb' 32 8

/-- The operand field `CW[31:0]` (R80). -/
def operandOf (w : CmdWord) : BitVec 32 := w.extractLsb' 0 32

/-- `op ++ arg` (R6, R80): an opcode and an operand as one command word. -/
def commandWord (op : BitVec 8) (arg : BitVec 32) : CmdWord := op ++ arg

end Sys2Proof
end

