-- ==== Sys2Proof/Syntax.lean ====
section
/-! DEFINITION. The 25 commands (30_encoding.md R90), one constructor per row of
spec/opcode_table.json, operands in the order of the spec's signature (R83 to R87).

An integer operand is the bit field the encoding carries, whole: the decoder makes no range check
(R95). A float operand is its binary32 pattern, any of the 2^32 (R85). -/

namespace Sys2Proof

/-- A command of the hardware (R90). -/
inductive Instr where
  /-- `TICK` (R270): one sample period. -/
  | tick
  /-- `NOTE_ON midi, accent, slide` (R196). -/
  | noteOn (midi : BitVec 8) (accent slide : Bool)
  /-- `NOTE_OFF` (R197). -/
  | noteOff
  /-- `START` (R239). -/
  | start
  /-- `STOP` (R240). -/
  | stop
  /-- `SET_WAVEFORM w` (R211). -/
  | setWaveform (value : BitVec 32)
  /-- `SET_CUTOFF v` (R212). -/
  | setCutoff (v : F32)
  /-- `SET_RESONANCE v` (R213). -/
  | setResonance (v : F32)
  /-- `SET_ENV_MOD v` (R214). -/
  | setEnvMod (v : F32)
  /-- `SET_DECAY v` (R215). -/
  | setDecay (v : F32)
  /-- `SET_ACCENT v` (R216). -/
  | setAccent (v : F32)
  /-- `SET_SLIDE_TIME v` (R217). -/
  | setSlideTime (v : F32)
  /-- `SET_DISTORTION v` (R218). -/
  | setDistortion (v : F32)
  /-- `SET_TEMPO v` (R241). -/
  | setTempo (v : F32)
  /-- `SET_SYNTH_VOLUME v` (R275). -/
  | setSynthVolume (v : F32)
  /-- `SET_DRUM_VOLUME v` (R276). -/
  | setDrumVolume (v : F32)
  /-- `SET_KICK_VOLUME v` (R277). -/
  | setKickVolume (v : F32)
  /-- `SET_SNARE_VOLUME v` (R278). -/
  | setSnareVolume (v : F32)
  /-- `SET_HIHAT_VOLUME v` (R279). -/
  | setHihatVolume (v : F32)
  /-- `SET_SYNTH_STEP i, note, accent, slide, active` (R242). -/
  | setSynthStep (index note : BitVec 8) (accent slide active : Bool)
  /-- `SET_DRUM_STEP i, kick, snare, closed_hh, open_hh` (R243). -/
  | setDrumStep (index : BitVec 8) (kick snare closedHh openHh : Bool)
  /-- `GET_SYNTH_STEP` (R244). -/
  | getSynthStep
  /-- `GET_DRUM_STEP` (R245). -/
  | getDrumStep
  /-- `SYNTH_STEP_CHANGED` (R246). -/
  | synthStepChanged
  /-- `DRUM_STEP_CHANGED` (R247). -/
  | drumStepChanged
deriving DecidableEq, Repr

end Sys2Proof
end

