-- ==== Sys2Proof/WellFormed.lean ====
section
/-! DEFINITION. Well-formedness.

Every operand of `Instr` has exactly the width of its field (30_encoding.md R81 to R89) and every value
of it is encodable, so an `Instr` term cannot be ill-formed. What can be ill-formed is a command WORD:
its opcode may be reserved (R91), or a bit marked "zero" may be 1 (R92). The checks below are R90's
`match` and `mask` columns, written independently of the decoder's algorithm (R95, `Decode.lean`). -/

namespace Sys2Proof

/-- One row of R90's table: the words `w` with `w & mask = matchBits` are the row's command. -/
structure OpcodeRow where
  mnemonic : String
  matchBits : CmdWord
  mask : CmdWord
deriving DecidableEq, Repr

/-- R90, rows 0x01 to 0x18. -/
def opcodeRowsLow : List OpcodeRow :=
  [ ⟨"TICK", 0x0100000000#40, 0xFFFFFFFFFF#40⟩,
    ⟨"NOTE_ON", 0x0200000000#40, 0xFFFFFFFC00#40⟩,
    ⟨"NOTE_OFF", 0x0300000000#40, 0xFFFFFFFFFF#40⟩,
    ⟨"START", 0x0400000000#40, 0xFFFFFFFFFF#40⟩,
    ⟨"STOP", 0x0500000000#40, 0xFFFFFFFFFF#40⟩,
    ⟨"SET_WAVEFORM", 0x1000000000#40, 0xFF00000000#40⟩,
    ⟨"SET_CUTOFF", 0x1100000000#40, 0xFF00000000#40⟩,
    ⟨"SET_RESONANCE", 0x1200000000#40, 0xFF00000000#40⟩,
    ⟨"SET_ENV_MOD", 0x1300000000#40, 0xFF00000000#40⟩,
    ⟨"SET_DECAY", 0x1400000000#40, 0xFF00000000#40⟩,
    ⟨"SET_ACCENT", 0x1500000000#40, 0xFF00000000#40⟩,
    ⟨"SET_SLIDE_TIME", 0x1600000000#40, 0xFF00000000#40⟩,
    ⟨"SET_DISTORTION", 0x1700000000#40, 0xFF00000000#40⟩,
    ⟨"SET_TEMPO", 0x1800000000#40, 0xFF00000000#40⟩ ]

/-- R90, rows 0x20 to 0x43. -/
def opcodeRowsHigh : List OpcodeRow :=
  [ ⟨"SET_SYNTH_VOLUME", 0x2000000000#40, 0xFF00000000#40⟩,
    ⟨"SET_DRUM_VOLUME", 0x2100000000#40, 0xFF00000000#40⟩,
    ⟨"SET_KICK_VOLUME", 0x2200000000#40, 0xFF00000000#40⟩,
    ⟨"SET_SNARE_VOLUME", 0x2300000000#40, 0xFF00000000#40⟩,
    ⟨"SET_HIHAT_VOLUME", 0x2400000000#40, 0xFF00000000#40⟩,
    ⟨"SET_SYNTH_STEP", 0x3000000000#40, 0xFFFFF80000#40⟩,
    ⟨"SET_DRUM_STEP", 0x3100000000#40, 0xFFFFFFF000#40⟩,
    ⟨"GET_SYNTH_STEP", 0x4000000000#40, 0xFFFFFFFFFF#40⟩,
    ⟨"GET_DRUM_STEP", 0x4100000000#40, 0xFFFFFFFFFF#40⟩,
    ⟨"SYNTH_STEP_CHANGED", 0x4200000000#40, 0xFFFFFFFFFF#40⟩,
    ⟨"DRUM_STEP_CHANGED", 0x4300000000#40, 0xFFFFFFFFFF#40⟩ ]

/-- The opcode map of R90, in the table's order. -/
def opcodeRows : List OpcodeRow := opcodeRowsLow ++ opcodeRowsHigh

/-- `w & mask = match` (R90). -/
def OpcodeRow.matches (r : OpcodeRow) (w : CmdWord) : Bool := w &&& r.mask == r.matchBits

/-- The opcode is one of the 25 of R90; the other 231 are reserved (R91). -/
def opcodeDefined (w : CmdWord) : Bool :=
  opcodeRows.any fun r => opcodeOf r.matchBits == opcodeOf w

/-- No bit marked "zero" in the opcode's format is 1 (R92), for a word whose opcode is defined. -/
def zeroBitsClear (w : CmdWord) : Bool :=
  opcodeRows.all fun r => opcodeOf r.matchBits != opcodeOf w || r.matches w

/-- A well-formed command word: not a reserved encoding (R91, R92). -/
def wordWellFormed (w : CmdWord) : Bool := opcodeDefined w && zeroBitsClear w

/-- The mnemonic of R90 for a command. -/
def Instr.mnemonic : Instr → String
  | .tick => "TICK"
  | .noteOn _ _ _ => "NOTE_ON"
  | .noteOff => "NOTE_OFF"
  | .start => "START"
  | .stop => "STOP"
  | .setWaveform _ => "SET_WAVEFORM"
  | .setCutoff _ => "SET_CUTOFF"
  | .setResonance _ => "SET_RESONANCE"
  | .setEnvMod _ => "SET_ENV_MOD"
  | .setDecay _ => "SET_DECAY"
  | .setAccent _ => "SET_ACCENT"
  | .setSlideTime _ => "SET_SLIDE_TIME"
  | .setDistortion _ => "SET_DISTORTION"
  | .setTempo _ => "SET_TEMPO"
  | .setSynthVolume _ => "SET_SYNTH_VOLUME"
  | .setDrumVolume _ => "SET_DRUM_VOLUME"
  | .setKickVolume _ => "SET_KICK_VOLUME"
  | .setSnareVolume _ => "SET_SNARE_VOLUME"
  | .setHihatVolume _ => "SET_HIHAT_VOLUME"
  | .setSynthStep _ _ _ _ _ => "SET_SYNTH_STEP"
  | .setDrumStep _ _ _ _ _ => "SET_DRUM_STEP"
  | .getSynthStep => "GET_SYNTH_STEP"
  | .getDrumStep => "GET_DRUM_STEP"
  | .synthStepChanged => "SYNTH_STEP_CHANGED"
  | .drumStepChanged => "DRUM_STEP_CHANGED"

end Sys2Proof
end

