-- ==== Sys2Proof/Decode.lean ====
section
/-! DEFINITION. The decoder (30_encoding.md R95) and the encoder, total on all 2^40 words.

The decoder is R95's algorithm: opcode, then the "zero" bits of the opcode's format (R81), then the
fields (R82 to R88). It makes no range check. -/

namespace Sys2Proof

/-- The seven operand formats of R81. -/
inductive Format where
  | N | K | E | F | P | Q | R
deriving DecidableEq, Repr

/-- The operand bits that must be 0 in each format (R81, R92). -/
def zeroMask : Format → BitVec 32
  | .N => 0xFFFFFFFF#32
  | .K => 0xFFFFFC00#32
  | .E => 0x00000000#32
  | .F => 0x00000000#32
  | .P => 0xFFF80000#32
  | .Q => 0xFFFFF000#32
  | .R => 0xFFFFFFFF#32

/-- Why a word is a reserved encoding. -/
inductive Reserved where
  /-- The opcode is none of R90's (R91). -/
  | opcode (op : BitVec 8)
  /-- The opcode is defined and the operand has these "zero" bits set (R92). -/
  | zeroBits (op : BitVec 8) (bits : BitVec 32)
deriving DecidableEq, Repr

/-- `bool(arg[k])` (R6). -/
def flagBit (arg : BitVec 32) (k : Nat) : Bool := arg.getLsbD k

/-- The unsigned 8-bit field of `arg` whose lowest bit is bit `k`. -/
def byteField (arg : BitVec 32) (k : Nat) : BitVec 8 := arg.extractLsb' k 8

/-- Format K (R83). -/
def cutNote (arg : BitVec 32) : Instr :=
  .noteOn (byteField arg 0) (flagBit arg 8) (flagBit arg 9)

/-- Format P (R86). -/
def cutSynthStep (arg : BitVec 32) : Instr :=
  .setSynthStep (byteField arg 0) (byteField arg 8) (flagBit arg 16) (flagBit arg 17) (flagBit arg 18)

/-- Format Q (R87). -/
def cutDrumStep (arg : BitVec 32) : Instr :=
  .setDrumStep (byteField arg 0) (flagBit arg 8) (flagBit arg 9) (flagBit arg 10) (flagBit arg 11)

/-- R90's columns "opcode", "format" and the command itself with the fields of R82 to R88 cut from the
operand; `none` for the 231 reserved opcodes (R91). -/
def opcodeEntry (op : BitVec 8) (arg : BitVec 32) : Option (Format × Instr) :=
  match op.toNat with
  | 0x01 => some (.N, .tick)
  | 0x02 => some (.K, cutNote arg)
  | 0x03 => some (.N, .noteOff)
  | 0x04 => some (.N, .start)
  | 0x05 => some (.N, .stop)
  | 0x10 => some (.E, .setWaveform arg)
  | 0x11 => some (.F, .setCutoff arg)
  | 0x12 => some (.F, .setResonance arg)
  | 0x13 => some (.F, .setEnvMod arg)
  | 0x14 => some (.F, .setDecay arg)
  | 0x15 => some (.F, .setAccent arg)
  | 0x16 => some (.F, .setSlideTime arg)
  | 0x17 => some (.F, .setDistortion arg)
  | 0x18 => some (.F, .setTempo arg)
  | 0x20 => some (.F, .setSynthVolume arg)
  | 0x21 => some (.F, .setDrumVolume arg)
  | 0x22 => some (.F, .setKickVolume arg)
  | 0x23 => some (.F, .setSnareVolume arg)
  | 0x24 => some (.F, .setHihatVolume arg)
  | 0x30 => some (.P, cutSynthStep arg)
  | 0x31 => some (.Q, cutDrumStep arg)
  | 0x40 => some (.R, .getSynthStep)
  | 0x41 => some (.R, .getDrumStep)
  | 0x42 => some (.R, .synthStepChanged)
  | 0x43 => some (.R, .drumStepChanged)
  | _ => none

/-- R95: every word decodes to exactly one command with its fields, or is Reserved. The test of the
reserved encoding comes first (60_exceptions.md R297). -/
def decode (w : CmdWord) : Except Reserved Instr :=
  match opcodeEntry (opcodeOf w) (operandOf w) with
  | none => .error (.opcode (opcodeOf w))
  | some (format, command) =>
    if operandOf w &&& zeroMask format = 0#32 then .ok command
    else .error (.zeroBits (opcodeOf w) (operandOf w &&& zeroMask format))

/-- `arg[k]` of a boolean operand (R6). -/
def flagAt (b : Bool) (k : Nat) : BitVec 32 := if b then BitVec.ofNat 32 (2 ^ k) else 0#32

/-- An 8-bit field placed with its lowest bit at bit `k`. -/
def byteAt (v : BitVec 8) (k : Nat) : BitVec 32 := (v.setWidth 32) <<< k

/-- The opcode of a command (R90). -/
def opcodeByte : Instr → BitVec 8
  | .tick => 0x01#8
  | .noteOn _ _ _ => 0x02#8
  | .noteOff => 0x03#8
  | .start => 0x04#8
  | .stop => 0x05#8
  | .setWaveform _ => 0x10#8
  | .setCutoff _ => 0x11#8
  | .setResonance _ => 0x12#8
  | .setEnvMod _ => 0x13#8
  | .setDecay _ => 0x14#8
  | .setAccent _ => 0x15#8
  | .setSlideTime _ => 0x16#8
  | .setDistortion _ => 0x17#8
  | .setTempo _ => 0x18#8
  | .setSynthVolume _ => 0x20#8
  | .setDrumVolume _ => 0x21#8
  | .setKickVolume _ => 0x22#8
  | .setSnareVolume _ => 0x23#8
  | .setHihatVolume _ => 0x24#8
  | .setSynthStep _ _ _ _ _ => 0x30#8
  | .setDrumStep _ _ _ _ _ => 0x31#8
  | .getSynthStep => 0x40#8
  | .getDrumStep => 0x41#8
  | .synthStepChanged => 0x42#8
  | .drumStepChanged => 0x43#8

/-- The operand of a command, "zero" bits 0 (R81 to R89). -/
def operandBits : Instr → BitVec 32
  | .tick | .noteOff | .start | .stop => 0#32
  | .getSynthStep | .getDrumStep | .synthStepChanged | .drumStepChanged => 0#32
  | .noteOn midi accent slide => byteAt midi 0 ||| flagAt accent 8 ||| flagAt slide 9
  | .setWaveform v | .setCutoff v | .setResonance v | .setEnvMod v | .setDecay v | .setAccent v => v
  | .setSlideTime v | .setDistortion v | .setTempo v | .setSynthVolume v | .setDrumVolume v => v
  | .setKickVolume v | .setSnareVolume v | .setHihatVolume v => v
  | .setSynthStep index note accent slide active =>
    byteAt index 0 ||| byteAt note 8 ||| flagAt accent 16 ||| flagAt slide 17 ||| flagAt active 18
  | .setDrumStep index kick snare closedHh openHh =>
    byteAt index 0 ||| flagAt kick 8 ||| flagAt snare 9 ||| flagAt closedHh 10 ||| flagAt openHh 11

/-- R95, "Encoding is the inverse: fields into their positions, zero bits 0". -/
def encode (i : Instr) : CmdWord := commandWord (opcodeByte i) (operandBits i)

/-- The command word whose low `nbits` bits are those of `w` and whose other bits are 0. The hardware
moves the word whole (20_memory.md R61): bit 0 of the number is bit 0 of the word. -/
def tableWord (nbits w : Nat) : CmdWord := BitVec.ofNat 40 (w % 2 ^ nbits)

/-- The command the decoder reads from a word given as a number, for the host's check of the table. -/
def decodeTableWord (nbits w : Nat) : Option Instr :=
  match decode (tableWord nbits w) with
  | .ok i => some i
  | .error _ => none

end Sys2Proof
end

