-- ==== Sys2Proof/Config.lean ====
section
/-! DEFINITION. The free values: constants with no body, so that nothing can be proved of which value
one is, and a claim that holds of the model holds whatever it is.

The parameters of 00_scope.md R5 that are plain data (the sample rate, the tunable constants, the note
ROM, the reset configuration) are in `Sys2Proof/Machine/Params.lean` and are held in the state. -/

namespace Sys2Proof

/-- The three samples the drum voices answer in one `TICK` (46_environment.md R232; the ports
`kick_in`, `snare_in`, `hihat_in` of 10_state.md R44). -/
structure DrumSamples (α : Type) where
  kick : α
  snare : α
  hihat : α
deriving DecidableEq, Repr, Inhabited

/-- How a faithful function chooses between the two binary32 values that bracket a real result. -/
inductive Split where
  /-- The nearer one: correctly rounded. -/
  | nearest
  /-- The upper one from the argument `t` upward, the lower one below it (always the lower one, if `t`
  is a NaN). -/
  | upperFrom (t : F32)
deriving DecidableEq, Repr, Inhabited

/-- EXP's choice (R9) in the bracket whose lower end is the argument. Every faithful and monotone EXP is
given by such a table, and R9 fixes no more. Log 2. -/
opaque Config.expSplit : F32 → Split

/-- TANH's choice (R10), in the form of `Config.expSplit`, for arguments `v > 0`; TANH is odd, so
negative arguments mirror it. Log 2. -/
opaque Config.tanhSplit : F32 → Split

/-- EXP of an argument that is positive or not finite: R9 says the hardware never evaluates it there and
states no value. Log 3. -/
opaque Config.expOutside : F32 → F32

/-- `floor` of a value that is not finite: R11 defines `floor` for finite values only. Log 4. -/
opaque Config.floorOutside : F32 → F32

/-- The free bits (sign, fraction) of a NaN that operation number `op` returns for its two operands; R8
says that the IEEE default result is returned and fixes no pattern for it. Log 1. -/
opaque Config.nanBits : (op : Nat) → F32 → F32 → BitVec 32

/-- A build's own `FB_SCALE(resonance, c)`, for a build whose scale is not the linear form with two
coefficients (R5; 90_conflicts.md C4: "a parameter function of `(resonance, c)`"). Log 9. -/
opaque Config.fbScaleLaw : (build : Nat) → F32 → F32 → F32

/-- `Config.fbScaleLaw` in the real reading of the rules (R7). Log 9. -/
noncomputable opaque Config.realFbScaleLaw : (build : Nat) → ℝ → ℝ → ℝ

/-- The drum voices' answer when no sample stands at their ports already: a free function of the
environment and of every trigger nibble they have been shown, the newest first (R232). Log 5. -/
opaque Config.drumAnswer : (env : Nat) → (history : List (BitVec 4)) → DrumSamples F32

end Sys2Proof
end

