-- ==== Sys2Proof/Machine/F32.lean ====
section
/-! DEFINITION. binary32 arithmetic (00_scope.md R7, R8), the other exact primitives (R11), EXP (R9) and
TANH (R10).

Every finite binary32 value is a whole multiple of `2^-149`, so a finite operand is an exact integer in
that unit, an operation is exact integer (or rational) arithmetic, and the result is rounded once. -/

namespace Sys2Proof

/-! ### The parts of a value (R7) -/

/-- The sign bit, bit 31. -/
def F32.sign (x : F32) : Bool := x.msb

/-- Bits 30 to 0, exponent and fraction together, as a number. Among non-NaN values of one sign it
orders the values. -/
def F32.mag (x : F32) : Nat := x.toNat % 2 ^ 31

/-- The magnitude bits of an infinity; everything above is a NaN. -/
def F32.infMag : Nat := 0x7F800000

/-- The magnitude bits of 1.0. -/
def F32.oneMag : Nat := 0x3F800000

/-- `isnan(v)` (R11). -/
def F32.isNaN (x : F32) : Bool := decide (F32.infMag < F32.mag x)

/-- An infinity of either sign. -/
def F32.isInf (x : F32) : Bool := decide (F32.mag x = F32.infMag)

/-- `isfinite(v)` (R11): neither an infinity nor a NaN. -/
def F32.isFinite (x : F32) : Bool := decide (F32.mag x < F32.infMag)

/-- The value with a sign and magnitude bits. -/
def F32.pack (s : Bool) (m : Nat) : F32 := BitVec.ofNat 32 ((if s then 2 ^ 31 else 0) + m)

/-- The magnitude a pattern of magnitude bits stands for, in units of `2^-149`: a subnormal's fraction,
or the fraction with its hidden bit shifted by the exponent. (An infinity's bits give `2^277`, above
every finite value.) -/
def F32.scaled (m : Nat) : Nat :=
  if m / 2 ^ 23 = 0 then m else (m % 2 ^ 23 + 2 ^ 23) * 2 ^ (m / 2 ^ 23 - 1)

/-- The value of a finite operand in units of `2^-149`. -/
def F32.toInt (x : F32) : Int :=
  if F32.sign x then -(F32.scaled (F32.mag x) : Int) else (F32.scaled (F32.mag x) : Int)

/-! ### Rounding (R8) -/

/-- The exponent `k` of the spacing `2^k` (in units of `2^-149`) of the binary32 values around the
rational `num/den`. -/
def F32.spacing (num den : Nat) : Nat := Nat.log2 (num / den) - 23

/-- Magnitude bits of `m` steps of spacing `2^k`; past the largest finite value, an infinity. -/
def F32.assemble (k m : Nat) : Nat := min (k * 2 ^ 23 + m) F32.infMag

/-- `num/den` (units of `2^-149`) rounded to nearest, ties to even: magnitude bits. -/
def F32.roundNearest (num den : Nat) : Nat :=
  let k := F32.spacing num den
  let d := den * 2 ^ k
  let q := num / d
  let r := num % d
  F32.assemble k (if d < 2 * r || (2 * r == d && q % 2 == 1) then q + 1 else q)

/-- The greatest binary32 magnitude not above `num/den`. -/
def F32.roundDown (num den : Nat) : Nat :=
  let k := F32.spacing num den
  F32.assemble k (num / (den * 2 ^ k))

/-- The least binary32 magnitude not below `num/den`. -/
def F32.roundUp (num den : Nat) : Nat :=
  let k := F32.spacing num den
  F32.assemble k ((num + (den * 2 ^ k - 1)) / (den * 2 ^ k))

/-- A NaN with free sign and free fraction, those of operation number `op` (0 add, 1 multiply, 2 divide,
3 TANH, 4 subtract; log 1); quiet, so that it is a NaN whatever is free. -/
def F32.nan (op : Nat) (a b : F32) : F32 := 0x7FC00000#32 ||| (Config.nanBits op a b &&& 0x803FFFFF#32)

/-! ### The four operations (R8) -/

/-- `-a`: flips the sign bit exactly. -/
def F32.neg (a : F32) : F32 := a ^^^ 0x80000000#32

/-- The exact sum `z` of two finite values, rounded; a zero sum is `-0.0` only if both operands are
negative zeros (`neg0`). -/
def F32.roundSum (neg0 : Bool) (z : Int) : F32 :=
  if z = 0 then F32.pack neg0 0 else F32.pack (decide (z < 0)) (F32.roundNearest z.natAbs 1)

/-- `a + b`. -/
def F32.add (a b : F32) : F32 :=
  if F32.isNaN a || F32.isNaN b then F32.nan 0 a b
  else if F32.isInf a then
    (if F32.isInf b && (F32.sign a != F32.sign b) then F32.nan 0 a b else a)
  else if F32.isInf b then b
  else F32.roundSum (F32.sign a && F32.sign b) (F32.toInt a + F32.toInt b)

/-- `a - b`: the sum with the sign of `b` flipped, but that a NaN result has free bits of its own (log 1). -/
def F32.sub (a b : F32) : F32 :=
  if F32.isNaN a || F32.isNaN b || (F32.isInf a && F32.isInf b && (F32.sign a == F32.sign b)) then
    F32.nan 4 a b
  else F32.add a (F32.neg b)

/-- `a * b`. -/
def F32.mul (a b : F32) : F32 :=
  if F32.isNaN a || F32.isNaN b then F32.nan 1 a b
  else if F32.isInf a || F32.isInf b then
    (if F32.mag a = 0 ∨ F32.mag b = 0 then F32.nan 1 a b
     else F32.pack (F32.sign a != F32.sign b) F32.infMag)
  else F32.pack (F32.sign a != F32.sign b)
    (F32.roundNearest (F32.scaled (F32.mag a) * F32.scaled (F32.mag b)) (2 ^ 149))

/-- `a / b`. -/
def F32.div (a b : F32) : F32 :=
  if F32.isNaN a || F32.isNaN b then F32.nan 2 a b
  else if F32.isInf a then
    (if F32.isInf b then F32.nan 2 a b else F32.pack (F32.sign a != F32.sign b) F32.infMag)
  else if F32.isInf b then F32.pack (F32.sign a != F32.sign b) 0
  else if F32.mag b = 0 then
    (if F32.mag a = 0 then F32.nan 2 a b else F32.pack (F32.sign a != F32.sign b) F32.infMag)
  else F32.pack (F32.sign a != F32.sign b)
    (F32.roundNearest (F32.scaled (F32.mag a) * 2 ^ 149) (F32.scaled (F32.mag b)))

/-! ### Comparisons (R8): false with a NaN, and `-0.0 = +0.0` -/

/-- `a < b`. -/
def F32.lt (a b : F32) : Bool := !F32.isNaN a && !F32.isNaN b && decide (F32.toInt a < F32.toInt b)

/-- `a <= b`. -/
def F32.le (a b : F32) : Bool := !F32.isNaN a && !F32.isNaN b && decide (F32.toInt a ≤ F32.toInt b)

/-! ### Other exact primitives (R11) -/

/-- `abs(v)` clears the sign bit. -/
def F32.abs (a : F32) : F32 := a &&& 0x7FFFFFFF#32

/-- `floor(v)`: the greatest integer not above a finite `v`, as an `F32`; the sign of a zero is the
operand's (log 4). -/
def F32.floor (a : F32) : F32 :=
  if F32.isFinite a then
    let k := F32.toInt a / 2 ^ 149
    if k = 0 then F32.pack (F32.sign a) 0
    else F32.pack (decide (k < 0)) (F32.roundNearest (k.natAbs * 2 ^ 149) 1)
  else Config.floorOutside a

/-- An integer used in an `F32` expression (R8). -/
def F32.ofNat (n : Nat) : F32 := F32.pack false (F32.roundNearest (n * 2 ^ 149) 1)

/-- `fl(c)` for the decimal constant `c = ± digits / 10^places` (R11). -/
def F32.fl (negative : Bool) (digits places : Nat) : F32 :=
  F32.pack negative (F32.roundNearest (digits * 2 ^ 149) (10 ^ places))

/-! ### EXP and TANH (R9, R10)

Both are free up to the two binary32 values that bracket the real result (EXP-FAITHFUL,
TANH-FAITHFUL); the brackets are computed with bounds on `e^x` in units of `2^-640`. -/

/-- Taylor terms of `e^y`, `y = Y/2^156 ≤ 1`, in units of `2^-640`: `fuel` terms from term `k`, whose
value is `t`, added to `acc`. With `up = 0` every term is rounded down; with `up = 1` every term is
rounded up and twice the next term covers the rest of the series. -/
def F32.expTerms (up Y : Nat) : (fuel k t acc : Nat) → Nat
  | 0, _, t, acc => acc + up * (2 * t)
  | fuel + 1, k, t, acc => F32.expTerms up Y fuel (k + 1) (t * Y / (2 ^ 156 * (k + 1)) + up) (acc + t)

/-- `times` squarings in units of `2^-640`, rounded down (`up = 0`) or up (`up = 1`). -/
def F32.squarings (up : Nat) : (times e : Nat) → Nat
  | 0, e => e
  | times + 1, e => F32.squarings up times (e * e / 2 ^ 640 + up)

/-- A lower (`up = 0`) or upper (`up = 1`) bound on `e^x` in units of `2^-640`, `x = X/2^149`,
`X ≤ 128 · 2^149`: the series at `x/128`, squared seven times. -/
def F32.expScaled (up X : Nat) : Nat :=
  F32.squarings up 7 (F32.expTerms up X 128 0 (2 ^ 640) 0)

/-- The lower end of the bracket of `e^-x`, `x = X/2^149 > 0`, as magnitude bits. -/
def F32.expLo (X : Nat) : Nat :=
  if 128 * 2 ^ 149 ≤ X then 0 else F32.roundDown (2 ^ 640 * 2 ^ 149) (F32.expScaled 1 X)

/-- The upper end of the bracket of `e^-x`. -/
def F32.expHi (X : Nat) : Nat :=
  if 128 * 2 ^ 149 ≤ X then 1 else F32.roundUp (2 ^ 640 * 2 ^ 149) (F32.expScaled 0 X)

/-- The end of the bracket that is nearer to `e^-x`. -/
def F32.expNear (X : Nat) : Nat :=
  if 128 * 2 ^ 149 ≤ X then 0 else F32.roundNearest (2 ^ 640 * 2 ^ 149) (F32.expScaled 0 X)

/-- The value taken at `v`, of two neighbours `lo` and `hi` the end that a split (log 2) takes. If the
working precision does not separate the real result from the value between `lo` and `hi`, that value, which
is one of the two that bracket the result whichever side it lies on. -/
def F32.choose (split : F32 → Split) (v : F32) (lo hi near : Nat) : Nat :=
  if lo + 1 < hi then lo + 1
  else
    match split (F32.pack false lo) with
    | .nearest => if near = hi then hi else lo
    | .upperFrom t => if F32.le t v then hi else lo

/-- EXP (R9), for a choice `split`: EXP-ZERO at a zero, one end of the bracket at a finite negative
argument, a free value elsewhere (log 3). -/
def F32.exp (split : F32 → Split) (v : F32) : F32 :=
  if F32.isFinite v && decide (F32.toInt v ≤ 0) then
    let X := F32.scaled (F32.mag v)
    if X = 0 then F32.pack false F32.oneMag
    else F32.pack false (F32.choose split v (F32.expLo X) (F32.expHi X) (F32.expNear X))
  else Config.expOutside v

/-- The lower end of the bracket of `tanh x = (e^2x - 1)/(e^2x + 1)`, `x = X/2^149 > 0`. -/
def F32.tanhLo (X : Nat) : Nat :=
  if 64 * 2 ^ 149 ≤ X then F32.oneMag - 1
  else F32.roundDown ((F32.expScaled 0 (2 * X) - 2 ^ 640) * 2 ^ 149) (F32.expScaled 0 (2 * X) + 2 ^ 640)

/-- The upper end of the bracket of `tanh x`. -/
def F32.tanhHi (X : Nat) : Nat :=
  if 64 * 2 ^ 149 ≤ X then F32.oneMag
  else F32.roundUp ((F32.expScaled 1 (2 * X) - 2 ^ 640) * 2 ^ 149) (F32.expScaled 1 (2 * X) + 2 ^ 640)

/-- The end of the bracket that is nearer to `tanh x`. -/
def F32.tanhNear (X : Nat) : Nat :=
  if 64 * 2 ^ 149 ≤ X then F32.oneMag
  else F32.roundNearest ((F32.expScaled 0 (2 * X) - 2 ^ 640) * 2 ^ 149) (F32.expScaled 0 (2 * X) + 2 ^ 640)

/-- TANH (R10), for a choice `split`: a NaN at a NaN (TANH-NAN), `±0.0` at `±0.0` (TANH-ZERO), `±1.0` at
an infinity, and one end of the bracket elsewhere, mirrored for negative arguments (TANH-ODD). -/
def F32.tanh (split : F32 → Split) (v : F32) : F32 :=
  if F32.isNaN v then F32.nan 3 v v
  else if F32.isInf v then F32.pack (F32.sign v) F32.oneMag
  else
    let X := F32.scaled (F32.mag v)
    if X = 0 then v
    else F32.pack (F32.sign v)
      (F32.choose split (F32.abs v) (F32.tanhLo X) (F32.tanhHi X) (F32.tanhNear X))

end Sys2Proof
end

