-- ==== Sys2Proof/Machine/NumSys.lean ====
section
/-! DEFINITION. The number system as one record (00_scope.md R7: `Num`), so that every unit is written
once and read over binary32 (R8) or over the reals (`Sys2Proof/Machine/RealNum.lean`). -/

namespace Sys2Proof

/-- A number system: the operations the rules of files 40 to 47 use. -/
structure NumSys (α : Type) where
  /-- `a + b`. -/
  add : α → α → α
  /-- `a - b`. -/
  sub : α → α → α
  /-- `a * b`. -/
  mul : α → α → α
  /-- `a / b`. -/
  div : α → α → α
  /-- Unary minus. -/
  neg : α → α
  /-- `abs(v)` (R11). -/
  abs : α → α
  /-- `floor(v)` (R11). -/
  floor : α → α
  /-- `EXP(v)` (R9). -/
  exp : α → α
  /-- `TANH(v)` (R10). -/
  tanh : α → α
  /-- `a < b`; `a > b` is `lt b a`. -/
  lt : α → α → Bool
  /-- `a <= b`; `a >= b` is `le b a`. -/
  le : α → α → Bool
  /-- `isfinite(v)` (R11). -/
  isFinite : α → Bool
  /-- `isnan(v)` (R11). -/
  isNaN : α → Bool
  /-- An integer literal in an expression, converted exactly (R8). -/
  ofNat : Nat → α
  /-- A binary32 constant, or the operand of a float setter. -/
  lit : F32 → α
  /-- A build's own `FB_SCALE(resonance, c)` (R5, 90_conflicts.md C4; log 9). -/
  fbLaw : (build : Nat) → α → α → α

/-- `max(a, b)` (R11): `a` if `a > b` else `b`. -/
def NumSys.max {α : Type} (N : NumSys α) (a b : α) : α := if N.lt b a then a else b

/-- `min(a, b)` (R11): `a` if `a < b` else `b`. -/
def NumSys.min {α : Type} (N : NumSys α) (a b : α) : α := if N.lt a b then a else b

/-- `clamp(v, lo, hi) = min(max(v, lo), hi)` (R11). -/
def NumSys.clamp {α : Type} (N : NumSys α) (v lo hi : α) : α := N.min (N.max v lo) hi

/-- The literal `0.0`. -/
def NumSys.zero {α : Type} (N : NumSys α) : α := N.ofNat 0

/-- The literal `1`. -/
def NumSys.one {α : Type} (N : NumSys α) : α := N.ofNat 1

/-- The literal `2`. -/
def NumSys.two {α : Type} (N : NumSys α) : α := N.ofNat 2

/-- binary32 (R8), for a choice of EXP and of TANH among those R9 and R10 admit (log 2). -/
def NumSys.binary32 (expSplit tanhSplit : F32 → Split) : NumSys F32 where
  add := F32.add
  sub := F32.sub
  mul := F32.mul
  div := F32.div
  neg := F32.neg
  abs := F32.abs
  floor := F32.floor
  exp := F32.exp expSplit
  tanh := F32.tanh tanhSplit
  lt := F32.lt
  le := F32.le
  isFinite := F32.isFinite
  isNaN := F32.isNaN
  ofNat := F32.ofNat
  lit := fun c => c
  fbLaw := Config.fbScaleLaw

/-- The hardware's number system: binary32 with the free choice of EXP and TANH. -/
def hardware : NumSys F32 := NumSys.binary32 Config.expSplit Config.tanhSplit

/-- binary32 with correctly rounded EXP and TANH, the instance the derived vectors of
95_test_vectors.md take. The machine does not use it; tests do. -/
def correctlyRounded : NumSys F32 := NumSys.binary32 (fun _ => .nearest) (fun _ => .nearest)

/-- `fl(0.5)` (R11). -/
def constHalf : F32 := 0x3F000000#32

/-- `fl(0.45)` (R11). -/
def constCutoffRatio : F32 := 0x3EE66666#32

/-- `TWO_PI` (R11). -/
def constTwoPi : F32 := 0x40C90FDB#32

end Sys2Proof
end

