-- ==== Sys2Proof/Machine/Params.lean ====
section
/-! DEFINITION. The build parameters of 00_scope.md R5 that are plain data, the configuration register
file of 10_state.md R37 to R40, and the note ROM of 43_slide.md R172. -/

namespace Sys2Proof.Machine

/-- The two-variant tag of `CR[0]` (10_state.md R38): 0 is saw, 1 is square. -/
inductive Waveform where
  | saw
  | square
deriving DecidableEq, Repr

/-- The configuration register file `CR` (R37, R38). `CR[0]` is the waveform; the others are
values of the number system, `F32` in the hardware (R7). -/
structure ConfigRegs (α : Type) where
  /-- `CR[0]`. -/
  waveform : Waveform
  /-- `CR[1]`, Hz. -/
  cutoffHz : α
  /-- `CR[2]`. -/
  resonance : α
  /-- `CR[3]`. -/
  envMod : α
  /-- `CR[4]`, ms. -/
  decayMs : α
  /-- `CR[5]`. -/
  accentAmount : α
  /-- `CR[6]`, ms. -/
  slideTimeMs : α
  /-- `CR[7]`. -/
  distortion : α
  /-- `CR[8]`, beats per minute. -/
  tempoBpm : α
  /-- `CR[9]`. -/
  synthGain : α
  /-- `CR[10]`. -/
  drumMasterGain : α
  /-- `CR[11]`. -/
  kickGain : α
  /-- `CR[12]`. -/
  snareGain : α
  /-- `CR[13]`. -/
  hihatGain : α
deriving DecidableEq, Repr

/-- The 13 `F32` registers of `CR`, by name (R38). -/
inductive FloatReg where
  | cutoffHz | resonance | envMod | decayMs | accentAmount | slideTimeMs | distortion | tempoBpm
  | synthGain | drumMasterGain | kickGain | snareGain | hihatGain
deriving DecidableEq, Repr

/-- The tunable constants of R5, over the number system's carrier. -/
structure Tuning (α : Type) where
  /-- `SR`, Hz; sampled at reset and held (70_reset_and_hazards.md R320). -/
  sr : α
  /-- `CUTOFF_SWEEP_HZ`. -/
  cutoffSweepHz : α
  /-- `ACCENT_LOUDNESS`. -/
  accentLoudness : α
  /-- `ACCENT_DECAY_SCALE`. -/
  accentDecayScale : α
  /-- `ACCENT_ENV_BOOST`. -/
  accentEnvBoost : α
  /-- `FB_SCALE`'s constant coefficient (I11). -/
  fbScaleBase : α
  /-- `FB_SCALE`'s coefficient of `resonance` (I11). -/
  fbScaleSlope : α
  /-- `SLIDE_THRESHOLD`. -/
  slideThreshold : α
  /-- `ENV_FLOOR`. -/
  envFloor : α
  /-- `SNAP_HZ`. -/
  snapHz : α
deriving DecidableEq, Repr

/-- `SQ_SIGN` (R5, 40_oscillator.md R116). -/
inductive SqSign where
  /-- `+1`: the corrected signs. -/
  | corrected
  /-- `-1`: D0's literal signs. -/
  | literal
deriving DecidableEq, Repr

/-- The parameters of one build of the hardware (R5). No command writes one; `SR` is set by reset. -/
structure Params (α : Type) where
  tuning : Tuning α
  /-- `FB_SCALE`: `none` for the linear form with the two coefficients of `tuning` (R134, I11), or which
  other law the build has (90_conflicts.md C4; log 9). -/
  fbLaw : Option Nat
  sqSign : SqSign
  /-- `SEQ_CARRY` (46_environment.md R252). -/
  seqCarry : Bool
  /-- The ROM `NOTE_HZ` (10_state.md R43). -/
  noteHz : Vector α 128
  /-- `RESET_CFG` (R40). -/
  resetCfg : ConfigRegs α
  /-- The index of a pattern's last step, `STEPS - 1`: `STEPS` is 1 to 16, since `current_step` holds no
  step above 15 (10_state.md R33). Log 8. -/
  lastStep : Fin 16
  /-- `STEPS_PER_BEAT` (46_environment.md R237). -/
  stepsPerBeat : Nat
deriving DecidableEq, Repr

/-- `STEPS` (R5). -/
def Params.steps {α : Type} (p : Params α) : Nat := p.lastStep.val + 1

/-! ### A build read in another number system (R7) -/

/-- The register file with its values carried over. -/
def ConfigRegs.map {α β : Type} (f : α → β) (c : ConfigRegs α) : ConfigRegs β where
  waveform := c.waveform
  cutoffHz := f c.cutoffHz
  resonance := f c.resonance
  envMod := f c.envMod
  decayMs := f c.decayMs
  accentAmount := f c.accentAmount
  slideTimeMs := f c.slideTimeMs
  distortion := f c.distortion
  tempoBpm := f c.tempoBpm
  synthGain := f c.synthGain
  drumMasterGain := f c.drumMasterGain
  kickGain := f c.kickGain
  snareGain := f c.snareGain
  hihatGain := f c.hihatGain

/-- The tunable constants carried over. -/
def Tuning.map {α β : Type} (f : α → β) (t : Tuning α) : Tuning β where
  sr := f t.sr
  cutoffSweepHz := f t.cutoffSweepHz
  accentLoudness := f t.accentLoudness
  accentDecayScale := f t.accentDecayScale
  accentEnvBoost := f t.accentEnvBoost
  fbScaleBase := f t.fbScaleBase
  fbScaleSlope := f t.fbScaleSlope
  slideThreshold := f t.slideThreshold
  envFloor := f t.envFloor
  snapHz := f t.snapHz

/-- A build carried over, such as by `NumSys.lit` from binary32 to the reals. -/
def Params.map {α β : Type} (f : α → β) (p : Params α) : Params β where
  tuning := p.tuning.map f
  fbLaw := p.fbLaw
  sqSign := p.sqSign
  seqCarry := p.seqCarry
  noteHz := p.noteHz.map f
  resetCfg := p.resetCfg.map f
  lastStep := p.lastStep
  stepsPerBeat := p.stepsPerBeat

/-! ### The defaults -/

/-- R5, column "default", `SR` the argument. -/
def defaultTuning (sr : F32) : Tuning F32 where
  sr := sr
  cutoffSweepHz := 0x45FA0000#32     -- 8000.0
  accentLoudness := 0x3F800000#32    -- 1.0
  accentDecayScale := 0x3F000000#32  -- 0.5
  accentEnvBoost := 0x3F800000#32    -- 1.0
  fbScaleBase := 0x3F800000#32       -- 1
  fbScaleSlope := 0x40400000#32      -- 3
  slideThreshold := 0x3C23D70A#32    -- fl(0.01)
  envFloor := 0x3727C5AC#32          -- fl(1e-5)
  snapHz := 0x3C23D70A#32            -- fl(0.01)

/-- The default `SR`, 44100.0 (R5). -/
def defaultSampleRate : F32 := 0x472C4400#32

/-- The bounds of an admitted `SR` (R5): 8000.0 and 192000.0. -/
def minSampleRate : F32 := 0x45FA0000#32

/-- See `minSampleRate`. -/
def maxSampleRate : F32 := 0x483B8000#32

/-- `8000.0 ≤ SR ≤ 192000.0`, finite (R5); a NaN and an infinity fail the comparison. -/
def sampleRateAdmitted (sr : F32) : Bool := F32.le minSampleRate sr && F32.le sr maxSampleRate

/-- `RESET_CFG` (R40). -/
def defaultResetCfg : ConfigRegs F32 where
  waveform := .saw
  cutoffHz := 0x447A0000#32       -- 1000.0
  resonance := 0x3F000000#32      -- 0.5
  envMod := 0x3F000000#32         -- 0.5
  decayMs := 0x42C80000#32        -- 100.0
  accentAmount := 0x3F000000#32   -- 0.5
  slideTimeMs := 0x42700000#32    -- 60.0
  distortion := 0x00000000#32     -- 0.0
  tempoBpm := 0x42F00000#32       -- 120.0
  synthGain := 0x3F000000#32      -- 0.5
  drumMasterGain := 0x3F000000#32 -- 0.5
  kickGain := 0x3F000000#32       -- 0.5
  snareGain := 0x3F000000#32      -- 0.5
  hihatGain := 0x3F000000#32      -- 0.5

/-- `NOTE_HZ[0..15]` (R172, column 3). -/
def noteHzRows0 : Vector F32 16 :=
  #v[ 0x4102D013#32, 0x410A9760#32, 0x4112D517#32, 0x411B9041#32,
      0x4124D054#32, 0x412E9D37#32, 0x4138FF49#32, 0x4143FF6A#32,
      0x414FA700#32, 0x415C0000#32, 0x416914F6#32, 0x4176F110#32,
      0x4182D013#32, 0x418A9760#32, 0x4192D517#32, 0x419B9041#32 ]

/-- `NOTE_HZ[16..31]` (R172, column 3). -/
def noteHzRows16 : Vector F32 16 :=
  #v[ 0x41A4D054#32, 0x41AE9D37#32, 0x41B8FF49#32, 0x41C3FF6A#32,
      0x41CFA700#32, 0x41DC0000#32, 0x41E914F6#32, 0x41F6F110#32,
      0x4202D013#32, 0x420A9760#32, 0x4212D517#32, 0x421B9041#32,
      0x4224D054#32, 0x422E9D37#32, 0x4238FF49#32, 0x4243FF6A#32 ]

/-- `NOTE_HZ[32..47]` (R172, column 3). -/
def noteHzRows32 : Vector F32 16 :=
  #v[ 0x424FA700#32, 0x425C0000#32, 0x426914F6#32, 0x4276F110#32,
      0x4282D013#32, 0x428A9760#32, 0x4292D517#32, 0x429B9041#32,
      0x42A4D054#32, 0x42AE9D37#32, 0x42B8FF49#32, 0x42C3FF6A#32,
      0x42CFA700#32, 0x42DC0000#32, 0x42E914F6#32, 0x42F6F110#32 ]

/-- `NOTE_HZ[48..63]` (R172, column 3). -/
def noteHzRows48 : Vector F32 16 :=
  #v[ 0x4302D013#32, 0x430A9760#32, 0x4312D517#32, 0x431B9041#32,
      0x4324D054#32, 0x432E9D37#32, 0x4338FF49#32, 0x4343FF6A#32,
      0x434FA700#32, 0x435C0000#32, 0x436914F6#32, 0x4376F110#32,
      0x4382D013#32, 0x438A9760#32, 0x4392D517#32, 0x439B9041#32 ]

/-- `NOTE_HZ[64..79]` (R172, column 3). -/
def noteHzRows64 : Vector F32 16 :=
  #v[ 0x43A4D054#32, 0x43AE9D37#32, 0x43B8FF49#32, 0x43C3FF6A#32,
      0x43CFA700#32, 0x43DC0000#32, 0x43E914F6#32, 0x43F6F110#32,
      0x4402D013#32, 0x440A9760#32, 0x4412D517#32, 0x441B9041#32,
      0x4424D054#32, 0x442E9D37#32, 0x4438FF49#32, 0x4443FF6A#32 ]

/-- `NOTE_HZ[80..95]` (R172, column 3). -/
def noteHzRows80 : Vector F32 16 :=
  #v[ 0x444FA700#32, 0x445C0000#32, 0x446914F6#32, 0x4476F110#32,
      0x4482D013#32, 0x448A9760#32, 0x4492D517#32, 0x449B9041#32,
      0x44A4D054#32, 0x44AE9D37#32, 0x44B8FF49#32, 0x44C3FF6A#32,
      0x44CFA700#32, 0x44DC0000#32, 0x44E914F6#32, 0x44F6F110#32 ]

/-- `NOTE_HZ[96..111]` (R172, column 3). -/
def noteHzRows96 : Vector F32 16 :=
  #v[ 0x4502D013#32, 0x450A9760#32, 0x4512D517#32, 0x451B9041#32,
      0x4524D054#32, 0x452E9D37#32, 0x4538FF49#32, 0x4543FF6A#32,
      0x454FA700#32, 0x455C0000#32, 0x456914F6#32, 0x4576F110#32,
      0x4582D013#32, 0x458A9760#32, 0x4592D517#32, 0x459B9041#32 ]

/-- `NOTE_HZ[112..127]` (R172, column 3). -/
def noteHzRows112 : Vector F32 16 :=
  #v[ 0x45A4D054#32, 0x45AE9D37#32, 0x45B8FF49#32, 0x45C3FF6A#32,
      0x45CFA700#32, 0x45DC0000#32, 0x45E914F6#32, 0x45F6F110#32,
      0x4602D013#32, 0x460A9760#32, 0x4612D517#32, 0x461B9041#32,
      0x4624D054#32, 0x462E9D37#32, 0x4638FF49#32, 0x4643FF6A#32 ]

/-- The ROM `NOTE_HZ[0..127]` (R172). -/
def noteHzTable : Vector F32 128 :=
  noteHzRows0 ++ noteHzRows16 ++ noteHzRows32 ++ noteHzRows48
    ++ noteHzRows64 ++ noteHzRows80 ++ noteHzRows96 ++ noteHzRows112

/-- The default build (R5). -/
def defaultParams : Params F32 where
  tuning := defaultTuning defaultSampleRate
  fbLaw := none
  sqSign := .corrected
  seqCarry := false
  noteHz := noteHzTable
  resetCfg := defaultResetCfg
  lastStep := 15
  stepsPerBeat := 4

end Sys2Proof.Machine
end

