-- ==== Sys2Proof/Machine/StepClock.lean ====
section
/-! DEFINITION. The arithmetic of the sequencer's step clock (46_environment.md R237, R238, R252). -/

namespace Sys2Proof.Machine

/-- `SPS(tempo) = (SR * 60) / (tempo * STEPS_PER_BEAT)` (R237, where `STEPS_PER_BEAT` is 4). -/
def stepLength {α : Type} (N : NumSys α) (stepsPerBeat : Nat) (sr tempo : α) : α :=
  N.div (N.mul sr (N.ofNat 60)) (N.mul tempo (N.ofNat stepsPerBeat))

/-- `samples_into_step + 1` (R238). -/
def countSample {α : Type} (N : NumSys α) (samplesIntoStep : α) : α := N.add samplesIntoStep N.one

/-- "Reaches": `samples_into_step >= samples_per_step` (R238). -/
def stepDue {α : Type} (N : NumSys α) (samplesIntoStep samplesPerStep : α) : Bool :=
  N.le samplesPerStep samplesIntoStep

/-- What the count restarts from at an event: `0.0`, or with `SEQ_CARRY` the overshoot, except at the
first event after `START` (R252). -/
def restartCount {α : Type} (N : NumSys α) (carry atStart : Bool) (samplesIntoStep samplesPerStep : α) :
    α :=
  if carry && !atStart then N.sub samplesIntoStep samplesPerStep else N.zero

/-- `(current_step + 1) mod STEPS`, the mathematical `mod` (R15 b, R238, where `STEPS` is 16): the index
of the step that begins. -/
def nextStep (steps : Nat) (currentStep : BitVec 5) : BitVec 4 :=
  BitVec.ofInt 4 ((currentStep.toInt + 1) % steps)

end Sys2Proof.Machine
end

