-- ==== Sys2Proof/Machine/State.lean ====
section
/-! DEFINITION. The architectural state (10_state.md R20 to R46), the reasons a step can stop, and the
machine right after reset. State is plain data. -/

namespace Sys2Proof.Machine

/-- The ten voice registers (R21 to R28). -/
structure VoiceRegs (α : Type) where
  /-- Oscillator phase accumulator (R21). -/
  phase : α
  /-- Currently heard frequency, Hz (R22). -/
  freqCurrent : α
  /-- Target frequency, Hz (R22). -/
  freqTarget : α
  /-- The gate bit (R24); no rule reads it. -/
  gate : Bool
  /-- Envelope level (R25). -/
  envValue : α
  /-- Envelope multiplier latched at the last trigger (R26). -/
  decayCoef : α
  /-- First filter stage (R27). -/
  y1 : α
  /-- Second filter stage (R27). -/
  y2 : α
  /-- Third filter stage (R27). -/
  y3 : α
  /-- Accent strength latched at the last trigger (R28). -/
  accentLevel : α
deriving DecidableEq, Repr

/-- The sequencer registers and flags (R32 to R36). -/
structure SeqRegs (α : Type) where
  /-- 1 between a `START` and the next `STOP` (R32). -/
  running : Bool
  /-- `current_step`, 5 bits two's complement (R33). -/
  currentStep : BitVec 5
  /-- Length of the step now playing, in samples (R34). -/
  samplesPerStep : α
  /-- Samples since the last step boundary (R35). -/
  samplesIntoStep : α
  /-- Set by a step event, cleared by `SYNTH_STEP_CHANGED` (R36). -/
  synthStepChanged : Bool
  /-- Set by a step event, cleared by `DRUM_STEP_CHANGED` (R36). -/
  drumStepChanged : Bool
deriving DecidableEq, Repr

/-- One entry of `PAT_S`, 10 bits (R41). -/
structure SynthStep where
  note : BitVec 7
  accent : Bool
  slide : Bool
  active : Bool
deriving DecidableEq, Repr

/-- One entry of `PAT_D`, 4 bits (R42). -/
structure DrumStep where
  kick : Bool
  snare : Bool
  /-- Closed hat. -/
  chh : Bool
  /-- Open hat. -/
  ohh : Bool
deriving DecidableEq, Repr

/-- What the host presents to the hardware: a word on the command port (R44), or an assertion of `rst`
with the value on the `SR` port (R44, 70_reset_and_hazards.md R320). Log 6, log 7. -/
inductive PortEvent where
  | command (w : CmdWord)
  | reset (sr : F32)
deriving DecidableEq, Repr

/-- The groups of R20, over the number system's carrier (00_scope.md R7): what the commands of files 45
to 47 read and write, so that each is written once and read over binary32 or over the reals. -/
structure EngineState (α : Type) where
  /-- The build parameters and the ROM `NOTE_HZ` (R5, R43). Written by reset alone (`SR`). Log 8. -/
  params : Params α
  /-- The voice registers. -/
  voice : VoiceRegs α
  /-- The sample counter `n` (R30). -/
  sampleCount : BitVec 64
  /-- The sequencer registers. -/
  seq : SeqRegs α
  /-- The configuration registers `CR[0..13]` (R37). -/
  cr : ConfigRegs α
  /-- The synth pattern memory `PAT_S` (R41). -/
  patS : Vector SynthStep 16
  /-- The drum pattern memory `PAT_D` (R42). -/
  patD : Vector DrumStep 16
  /-- `out`: the last output sample (R45). -/
  out : α
  /-- `resp`: the last response (R45). -/
  resp : BitVec 32
  /-- `trig`: the triggers of the last `TICK` (R45). -/
  trig : BitVec 4
deriving DecidableEq, Repr

/-- The state of the hardware: the groups of R20 in binary32 (00_scope.md R7) with the build parameters
(R5), the pulses of its ports (R44), and last the model's own record of what the environment presents. -/
structure State extends EngineState F32 where
  /-- `out_valid` (R44): the step just made completed a `TICK`. Log 10. -/
  outValid : Bool
  /-- `resp_valid` (R44): the step just made completed a read command. Log 10. -/
  respValid : Bool
  /-- MODEL: what stands on the command port and `rst`, not yet accepted, oldest first. Log 6. -/
  port : List PortEvent
  /-- MODEL: drum samples already standing at `kick_in`, `snare_in`, `hihat_in`, one triple for each
  coming `TICK`, oldest first. Log 5. -/
  drumIn : List (DrumSamples F32)
  /-- MODEL: which environment the free drum answers come from. Log 5. -/
  drumEnv : Nat
  /-- MODEL: the trigger bits the drum voices have been shown, newest first. Log 5. -/
  trigHistory : List (BitVec 4)
deriving DecidableEq, Repr

/-- Why a step can stop with a fault: never. "No command can fault, trap, abort, stall for ever or
report an error" (60_exceptions.md R290), so there is no constructor, which is safe: a claim that no
fault happens is the spec's own. -/
inductive Fault where
deriving DecidableEq, Repr

/-- Why a step can be refused. -/
inductive Refusal where
  /-- An instruction with no meaning in the model. No arm of `exec` raises it: every command has its
  meaning. Safe. -/
  | notModelled (mnemonic : String)
  /-- `rst` was asserted with a sample rate outside 8000.0 to 192000.0 or not finite: the model refuses
  to build (00_scope.md R5, 70_reset_and_hazards.md R321, 93_implementation_defined.md I6). Raised by
  `resetStep` alone, never by a command. Safe: the spec gives that build no meaning. -/
  | sampleRateNotAdmitted (sr : F32)
deriving DecidableEq, Repr

/-- An inactive synth step with every field 0 (R41). -/
def emptySynthStep : SynthStep := ⟨0#7, false, false, false⟩

/-- A drum step with every bit 0 (R42). -/
def emptyDrumStep : DrumStep := ⟨false, false, false, false⟩

/-- R46, voice registers. -/
def resetVoice {α : Type} (N : NumSys α) : VoiceRegs α where
  phase := N.zero
  freqCurrent := N.zero
  freqTarget := N.zero
  gate := false
  envValue := N.zero
  decayCoef := N.zero
  y1 := N.zero
  y2 := N.zero
  y3 := N.zero
  accentLevel := N.zero

/-- R46, sequencer registers; `samples_per_step` is `SPS(RESET_CFG.tempo_bpm)`. -/
def resetSeq {α : Type} (N : NumSys α) (p : Params α) : SeqRegs α where
  running := false
  currentStep := BitVec.ofInt 5 (-1)
  samplesPerStep := stepLength N p.stepsPerBeat p.tuning.sr p.resetCfg.tempoBpm
  samplesIntoStep := N.zero
  synthStepChanged := false
  drumStepChanged := false

/-- R46 for a build, in a number system. -/
def resetEngine {α : Type} (N : NumSys α) (p : Params α) : EngineState α where
  params := p
  voice := resetVoice N
  sampleCount := 0#64
  seq := resetSeq N p
  cr := p.resetCfg
  patS := Vector.replicate 16 emptySynthStep
  patD := Vector.replicate 16 emptyDrumStep
  out := N.zero
  resp := 0#32
  trig := 0#4

/-- The reset state of R46 for a build, with nothing on the ports. -/
def resetState (p : Params F32) : State where
  toEngineState := resetEngine hardware p
  outValid := false
  respValid := false
  port := []
  drumIn := []
  drumEnv := 0
  trigHistory := []

/-- The machine right after reset (R46), every parameter at its default (R5). -/
def State.reset : State := resetState defaultParams

end Sys2Proof.Machine
end

