-- ==== Sys2Proof/Machine/Flags.lean ====
section
/-! DEFINITION. The four one-bit flags (10_state.md R31): who sets and who clears each. The hardware has
no condition codes; no arithmetic result sets a flag. -/

namespace Sys2Proof.Machine

variable {α : Type}

/-- `gate <- b` (R24): 1 by every `NOTE_ON`, 0 by `NOTE_OFF` and `STOP`. -/
def setGate (b : Bool) (v : VoiceRegs α) : VoiceRegs α := { v with gate := b }

/-- `running <- b` (R32): 1 by `START`, 0 by `STOP`. -/
def setRunning (b : Bool) (q : SeqRegs α) : SeqRegs α := { q with running := b }

/-- Both changed-flags set, by a step event (46_environment.md R238). -/
def markStepChanged (q : SeqRegs α) : SeqRegs α :=
  { q with synthStepChanged := true, drumStepChanged := true }

/-- `synth_step_changed <- 0`, by its own read (R246). -/
def clearSynthChanged (q : SeqRegs α) : SeqRegs α := { q with synthStepChanged := false }

/-- `drum_step_changed <- 0`, by its own read (R247). -/
def clearDrumChanged (q : SeqRegs α) : SeqRegs α := { q with drumStepChanged := false }

/-- `zext_32` of a flag (30_encoding.md R88). -/
def flagWord (b : Bool) : BitVec 32 := (BitVec.ofBool b).setWidth 32

end Sys2Proof.Machine
end

