-- ==== Sys2Proof/Machine/Filter.lean ====
section
/-! DEFINITION. VCF, the three-pole resonant lowpass filter (41_filter.md). -/

namespace Sys2Proof.Machine

/-- The three one-pole stages (10_state.md R27). -/
structure FilterStages (α : Type) where
  y1 : α
  y2 : α
  y3 : α
deriving DecidableEq, Repr

/-- What `VCF.step` reads besides its operands (R130). -/
structure FilterControls (α : Type) where
  cutoffHz : α
  resonance : α
  envMod : α
  accentLevel : α
deriving DecidableEq, Repr

/-- Effective envelope depth `em` (R131). -/
def effectiveEnvMod {α : Type} (N : NumSys α) (t : Tuning α) (envMod accentLevel : α) : α :=
  N.mul envMod (N.add N.one (N.mul accentLevel t.accentEnvBoost))

/-- The upper bound of the modulated cutoff, `(SR / 2) * fl(0.45)` (R132). -/
def cutoffBound {α : Type} (N : NumSys α) (t : Tuning α) : α :=
  N.mul (N.div t.sr N.two) (N.lit constCutoffRatio)

/-- Modulated cutoff `c` (R132). -/
def modulatedCutoff {α : Type} (N : NumSys α) (t : Tuning α) (cutoffHz em e : α) : α :=
  N.clamp (N.add cutoffHz (N.mul (N.mul em e) t.cutoffSweepHz)) (N.ofNat 20) (cutoffBound N t)

/-- Stage coefficient `g` (R133). -/
def stageCoef {α : Type} (N : NumSys α) (t : Tuning α) (c : α) : α :=
  N.sub N.one (N.exp (N.div (N.mul (N.neg (N.lit constTwoPi)) c) t.sr))

/-- `FB_SCALE(resonance, c)` of the build's two coefficients (R134, I11; log 9). -/
def fbScale {α : Type} (N : NumSys α) (t : Tuning α) (resonance _c : α) : α :=
  N.add t.fbScaleBase (N.mul t.fbScaleSlope resonance)

/-- Feedback amount `fb` (R134), for a scale law. -/
def feedbackAmount {α : Type} (N : NumSys α) (law : α → α → α) (resonance c : α) : α :=
  N.mul resonance (law resonance c)

/-- Input with soft-limited feedback `x` (R135). -/
def filterInput {α : Type} (N : NumSys α) (fb input y3 : α) : α :=
  N.sub input (N.mul fb (N.tanh y3))

/-- One stage, `y + g * (u - y)` (R136). -/
def onePole {α : Type} (N : NumSys α) (g u y : α) : α := N.add y (N.mul g (N.sub u y))

/-- The three stages in sequence (R136), each seeing the value the one before it has just taken. -/
def updateStages {α : Type} (N : NumSys α) (g x : α) (y : FilterStages α) : FilterStages α :=
  let y1 := onePole N g x y.y1
  let y2 := onePole N g y1 y.y2
  let y3 := onePole N g y2 y.y3
  ⟨y1, y2, y3⟩

/-- The defensive reset (R137). -/
def guardStages {α : Type} (N : NumSys α) (y : FilterStages α) : FilterStages α :=
  if N.isFinite y.y1 && N.isFinite y.y2 && N.isFinite y.y3 then y else ⟨N.zero, N.zero, N.zero⟩

/-- `VCF.step(input, e)` (R139) for a scale law: the new stages; the output is `y3` (R138). -/
def filterStepWith {α : Type} (N : NumSys α) (t : Tuning α) (law : α → α → α) (k : FilterControls α)
    (input e : α) (y : FilterStages α) : FilterStages α :=
  let em := effectiveEnvMod N t k.envMod k.accentLevel
  let c := modulatedCutoff N t k.cutoffHz em e
  let g := stageCoef N t c
  let fb := feedbackAmount N law k.resonance c
  let x := filterInput N fb input y.y3
  guardStages N (updateStages N g x y)

/-- `VCF.step(input, e)` (R139). -/
def filterStep {α : Type} (N : NumSys α) (t : Tuning α) (k : FilterControls α) (input e : α)
    (y : FilterStages α) : FilterStages α :=
  filterStepWith N t (fbScale N t) k input e y

end Sys2Proof.Machine
end

