-- ==== Sys2Proof/Machine/Mixer.lean ====
section
/-! DEFINITION. MIX: sanitising, summing and limiting (47_mixer.md R271 to R273). -/

namespace Sys2Proof.Machine

/-- The five gains MIX reads (10_state.md R38). -/
structure Gains (α : Type) where
  synth : α
  drumMaster : α
  kick : α
  snare : α
  hihat : α
deriving DecidableEq, Repr

/-- `sanitize(x)` (R273). -/
def sanitize {α : Type} (N : NumSys α) (x : α) : α := if N.isFinite x then x else N.zero

/-- One drum term, `(x * gain) * drum_master_gain` (R271). -/
def drumTerm {α : Type} (N : NumSys α) (x gain master : α) : α := N.mul (N.mul x gain) master

/-- `MIX.sum(v, k, sn, hh)` (R271), in the order the rule writes. -/
def mixSum {α : Type} (N : NumSys α) (g : Gains α) (v k sn hh : α) : α :=
  N.add
    (N.add
      (N.add (N.mul v g.synth) (drumTerm N k g.kick g.drumMaster))
      (drumTerm N sn g.snare g.drumMaster))
    (drumTerm N hh g.hihat g.drumMaster)

/-- `MIX.limit(s)` (R272). -/
def mixLimit {α : Type} (N : NumSys α) (s : α) : α :=
  if N.isNaN s then N.zero else N.clamp s (N.neg N.one) N.one

end Sys2Proof.Machine
end

