-- ==== Sys2Proof/Machine/Operands.lean ====
section
/-! DEFINITION. Operands: what a command makes of the fields its word carries (30_encoding.md R89), and
the configuration registers by name and number (10_state.md R38). -/

namespace Sys2Proof.Machine

/-- `min(note, 127)` of an 8-bit note number (00_scope.md R15 d), as the 7 bits a pattern entry and the
ROM index hold. -/
def clampNote (note : BitVec 8) : BitVec 7 := BitVec.ofNat 7 (min note.toNat 127)

/-- The waveform a selector names (45_voice.md R211); `none` for 2 and above. -/
def selectWaveform (w : BitVec 32) : Option Waveform :=
  if w = 0#32 then some .saw else if w = 1#32 then some .square else none

/-- A register's number in `CR` (R38). -/
def FloatReg.number : FloatReg → Nat
  | .cutoffHz => 1
  | .resonance => 2
  | .envMod => 3
  | .decayMs => 4
  | .accentAmount => 5
  | .slideTimeMs => 6
  | .distortion => 7
  | .tempoBpm => 8
  | .synthGain => 9
  | .drumMasterGain => 10
  | .kickGain => 11
  | .snareGain => 12
  | .hihatGain => 13

/-- The lower bound of a register's legal values (R38). -/
def FloatReg.lo : FloatReg → F32
  | .cutoffHz => 0x41A00000#32      -- 20
  | .decayMs => 0x41200000#32       -- 10
  | .slideTimeMs => 0x41200000#32   -- 10
  | .tempoBpm => 0x42700000#32      -- 60
  | .resonance | .envMod | .accentAmount | .distortion => 0x00000000#32
  | .synthGain | .drumMasterGain | .kickGain | .snareGain | .hihatGain => 0x00000000#32

/-- The upper bound of a register's legal values (R38). -/
def FloatReg.hi : FloatReg → F32
  | .cutoffHz => 0x469C4000#32      -- 20000
  | .decayMs => 0x44FA0000#32       -- 2000
  | .slideTimeMs => 0x43480000#32   -- 200
  | .tempoBpm => 0x43480000#32      -- 200
  | .resonance | .envMod | .accentAmount | .distortion => 0x3F800000#32
  | .synthGain | .drumMasterGain | .kickGain | .snareGain | .hihatGain => 0x3F800000#32

/-- `CR[r]` (R12, R38). -/
def readReg {α : Type} (c : ConfigRegs α) : FloatReg → α
  | .cutoffHz => c.cutoffHz
  | .resonance => c.resonance
  | .envMod => c.envMod
  | .decayMs => c.decayMs
  | .accentAmount => c.accentAmount
  | .slideTimeMs => c.slideTimeMs
  | .distortion => c.distortion
  | .tempoBpm => c.tempoBpm
  | .synthGain => c.synthGain
  | .drumMasterGain => c.drumMasterGain
  | .kickGain => c.kickGain
  | .snareGain => c.snareGain
  | .hihatGain => c.hihatGain

/-- `CR[r] <- v` (R12, R38). -/
def writeReg {α : Type} (c : ConfigRegs α) (r : FloatReg) (v : α) : ConfigRegs α :=
  match r with
  | .cutoffHz => { c with cutoffHz := v }
  | .resonance => { c with resonance := v }
  | .envMod => { c with envMod := v }
  | .decayMs => { c with decayMs := v }
  | .accentAmount => { c with accentAmount := v }
  | .slideTimeMs => { c with slideTimeMs := v }
  | .distortion => { c with distortion := v }
  | .tempoBpm => { c with tempoBpm := v }
  | .synthGain => { c with synthGain := v }
  | .drumMasterGain => { c with drumMasterGain := v }
  | .kickGain => { c with kickGain := v }
  | .snareGain => { c with snareGain := v }
  | .hihatGain => { c with hihatGain := v }

/-- What VCF reads of the configuration and of the voice (41_filter.md R130). -/
def filterControls {α : Type} (c : ConfigRegs α) (v : VoiceRegs α) : FilterControls α :=
  ⟨c.cutoffHz, c.resonance, c.envMod, v.accentLevel⟩

/-- The five gains (47_mixer.md R271). -/
def gains {α : Type} (c : ConfigRegs α) : Gains α :=
  ⟨c.synthGain, c.drumMasterGain, c.kickGain, c.snareGain, c.hihatGain⟩

end Sys2Proof.Machine
end

