-- ==== Sys2Proof/Machine/Ops.lean ====
section
/-! DEFINITION. The named operations over registers, pattern memories and ports.

There is no operation that takes an exception and none that returns from one: "There is no trap entry"
(60_exceptions.md R298), "There is no trap return" (R299). -/

namespace Sys2Proof.Machine

variable {α : Type}

/-! ### Register groups -/

/-- The state with other voice registers. -/
def EngineState.setVoice (e : EngineState α) (v : VoiceRegs α) : EngineState α :=
  { e with voice := v }

/-- The state with other sequencer registers. -/
def EngineState.setSeq (e : EngineState α) (q : SeqRegs α) : EngineState α :=
  { e with seq := q }

/-- The state with other configuration registers. -/
def EngineState.setCr (e : EngineState α) (c : ConfigRegs α) : EngineState α :=
  { e with cr := c }

/-- `SETF(r, lo, hi, v)` (45_voice.md R210): a NaN is ignored; any other value is stored clamped to the
register's bounds (10_state.md R38). -/
def setFloat (N : NumSys α) (r : FloatReg) (v : α) (e : EngineState α) : EngineState α :=
  if N.isNaN v then e
  else e.setCr (writeReg e.cr r (N.clamp v (N.lit (FloatReg.lo r)) (N.lit (FloatReg.hi r))))

/-! ### Pattern memories and the ROM (20_memory.md R60, R63) -/

/-- `MemRead(PAT_S, i)`. -/
def EngineState.readSynthStep (e : EngineState α) (i : BitVec 4) : SynthStep :=
  e.patS[i.toNat]'i.isLt

/-- `MemRead(PAT_D, i)`. -/
def EngineState.readDrumStep (e : EngineState α) (i : BitVec 4) : DrumStep :=
  e.patD[i.toNat]'i.isLt

/-- `MemWrite(PAT_S, i, x)` of the whole entry; an index of 16 or more writes nothing (R62).
The range of the index is fixed and no parameter (00_scope.md R5), whatever `STEPS` is. -/
def writeSynthStep (i : BitVec 8) (x : SynthStep) (e : EngineState α) : EngineState α :=
  if h : i.toNat < 16 then
    { e with patS := e.patS.set i.toNat x h }
  else e

/-- `MemWrite(PAT_D, i, x)` of the whole entry; an index of 16 or more writes nothing (R62).
The range of the index is fixed and no parameter (00_scope.md R5), whatever `STEPS` is. -/
def writeDrumStep (i : BitVec 8) (x : DrumStep) (e : EngineState α) : EngineState α :=
  if h : i.toNat < 16 then
    { e with patD := e.patD.set i.toNat x h }
  else e

/-- `NOTE_HZ[m]` (10_state.md R43). -/
def noteHz (p : Params α) (m : BitVec 7) : α := p.noteHz[m.toNat]'m.isLt

/-! ### Ports (10_state.md R44, R45) -/

/-- `resp <- w` (R45). -/
def EngineState.respond (e : EngineState α) (w : BitVec 32) : EngineState α :=
  { e with resp := w }

/-- `out <- x` and `trig <- t` (R45). -/
def EngineState.emit (e : EngineState α) (x : α) (t : BitVec 4) : EngineState α :=
  { e with out := x, trig := t }

/-- The hardware's state with what a command makes of the groups of R20. -/
def State.onEngine (f : EngineState F32 → EngineState F32) (s : State) : State :=
  { s with toEngineState := f s.toEngineState }

/-- A read command: what it makes of the groups, with the pulse of `resp_valid`. -/
def State.answer (f : EngineState F32 → EngineState F32) (s : State) : State :=
  { s with toEngineState := f s.toEngineState, respValid := true }

/-- The pulses end with the step that made them; `rest` is left on the port. -/
def State.accept (s : State) (rest : List PortEvent) : State :=
  { s with port := rest, outValid := false, respValid := false }

/-- The drum voices, as `TICK` meets them (46_environment.md R232): shown the trigger bits, they answer
three samples. -/
abbrev DrumOracle (α : Type) := BitVec 4 → DrumSamples α

/-- The answer of the environment the state records: the samples already standing at the ports, or
else a free function of the environment and of every trigger nibble shown, this one first. Log 5. -/
def State.drumOracle (s : State) : DrumOracle F32 := fun trig =>
  match s.drumIn with
  | d :: _ => d
  | [] => Config.drumAnswer s.drumEnv (trig :: s.trigHistory)

/-- The end of a `TICK`: the pulse of `out_valid`, and the environment's record after it has been shown
the triggers. -/
def State.sampleDone (s : State) : State :=
  { s with outValid := true, drumIn := s.drumIn.tail, trigHistory := s.trig :: s.trigHistory }

/-- The outputs of one step (00_scope.md R13): at most one sample, at most one response, the triggers. -/
structure Outputs where
  sample : Option F32
  response : Option (BitVec 32)
  trig : BitVec 4
deriving DecidableEq, Repr

/-- What the ports show after a step. -/
def State.outputs (s : State) : Outputs where
  sample := if s.outValid then some s.out else none
  response := if s.respValid then some s.resp else none
  trig := s.trig

/-! ### Reset (70_reset_and_hazards.md R320) -/

/-- The build a reset leaves: `SR` sampled anew, every other parameter as built. -/
def sampleSr (p : Params F32) (sr : F32) : Params F32 := { p with tuning := { p.tuning with sr := sr } }

/-- `rst` asserted with `sr` on the `SR` port: every piece of the hardware's state takes the value of
10_state.md R46. The environment, outside the hardware, keeps its record (log 7). -/
def State.resetTo (s : State) (sr : F32) (rest : List PortEvent) : State :=
  { resetState (sampleSr s.params sr) with
    port := rest, drumIn := s.drumIn, drumEnv := s.drumEnv, trigHistory := s.trigHistory }

/-- The step that `rst` makes: the reset state, or a refusal to build (R5, R321). -/
def resetStep (s : State) (sr : F32) (rest : List PortEvent) : Host.Outcome State Fault Refusal :=
  if sampleRateAdmitted sr then .next (s.resetTo sr rest) else .refused (.sampleRateNotAdmitted sr)

/-- A build of the hardware: the reset state of its parameters, if its `SR` is admitted (R5, R321:
"the model's constructor takes a proof or a check of the range"). -/
def build (p : Params F32) : Option State :=
  if sampleRateAdmitted p.tuning.sr then some (resetState p) else none

end Sys2Proof.Machine
end

