-- ==== Sys2Proof/Machine/Setters.lean ====
section
/-! DEFINITION. The 14 configuration setters: `SET_WAVEFORM` (45_voice.md R211) and the 13 instances of
`SETF` (R210). -/

namespace Sys2Proof.Machine

variable {α : Type}

/-- `SET_WAVEFORM w` (R211): a selector of 2 or more is ignored. -/
def setWaveform (w : BitVec 32) (e : EngineState α) : EngineState α :=
  match selectWaveform w with
  | some k => e.setCr { e.cr with waveform := k }
  | none => e

/-- `SET_WAVEFORM` (R211). -/
def execSetWaveform (w : BitVec 32) (s : State) : Host.Outcome State Fault Refusal :=
  .next (s.onEngine (setWaveform w))

/-- `SET_CUTOFF` (R212). -/
def execSetCutoff (v : F32) (s : State) : Host.Outcome State Fault Refusal :=
  .next (s.onEngine (setFloat hardware .cutoffHz v))

/-- `SET_RESONANCE` (R213). -/
def execSetResonance (v : F32) (s : State) : Host.Outcome State Fault Refusal :=
  .next (s.onEngine (setFloat hardware .resonance v))

/-- `SET_ENV_MOD` (R214). -/
def execSetEnvMod (v : F32) (s : State) : Host.Outcome State Fault Refusal :=
  .next (s.onEngine (setFloat hardware .envMod v))

/-- `SET_DECAY` (R215). -/
def execSetDecay (v : F32) (s : State) : Host.Outcome State Fault Refusal :=
  .next (s.onEngine (setFloat hardware .decayMs v))

/-- `SET_ACCENT` (R216). -/
def execSetAccent (v : F32) (s : State) : Host.Outcome State Fault Refusal :=
  .next (s.onEngine (setFloat hardware .accentAmount v))

/-- `SET_SLIDE_TIME` (R217). -/
def execSetSlideTime (v : F32) (s : State) : Host.Outcome State Fault Refusal :=
  .next (s.onEngine (setFloat hardware .slideTimeMs v))

/-- `SET_DISTORTION` (R218). -/
def execSetDistortion (v : F32) (s : State) : Host.Outcome State Fault Refusal :=
  .next (s.onEngine (setFloat hardware .distortion v))

/-- `SET_TEMPO` (46_environment.md R241): `CR.tempo_bpm` alone; `samples_per_step` follows at the next
step event (R250). -/
def execSetTempo (v : F32) (s : State) : Host.Outcome State Fault Refusal :=
  .next (s.onEngine (setFloat hardware .tempoBpm v))

/-- `SET_SYNTH_VOLUME` (47_mixer.md R275). -/
def execSetSynthVolume (v : F32) (s : State) : Host.Outcome State Fault Refusal :=
  .next (s.onEngine (setFloat hardware .synthGain v))

/-- `SET_DRUM_VOLUME` (R276). -/
def execSetDrumVolume (v : F32) (s : State) : Host.Outcome State Fault Refusal :=
  .next (s.onEngine (setFloat hardware .drumMasterGain v))

/-- `SET_KICK_VOLUME` (R277). -/
def execSetKickVolume (v : F32) (s : State) : Host.Outcome State Fault Refusal :=
  .next (s.onEngine (setFloat hardware .kickGain v))

/-- `SET_SNARE_VOLUME` (R278). -/
def execSetSnareVolume (v : F32) (s : State) : Host.Outcome State Fault Refusal :=
  .next (s.onEngine (setFloat hardware .snareGain v))

/-- `SET_HIHAT_VOLUME` (R279). -/
def execSetHihatVolume (v : F32) (s : State) : Host.Outcome State Fault Refusal :=
  .next (s.onEngine (setFloat hardware .hihatGain v))

end Sys2Proof.Machine
end

