-- ==== Sys2Proof/Machine/Distortion.lean ====
section
/-! DEFINITION. DST, the soft-clipping distortion (44_distortion.md), and the VCA (45_voice.md R199). -/

namespace Sys2Proof.Machine

/-- The drive (R186). -/
def drive {α : Type} (N : NumSys α) (d : α) : α := N.add N.one (N.mul d (N.ofNat 9))

/-- The shaped signal (R187). -/
def shaped {α : Type} (N : NumSys α) (d x : α) : α :=
  N.div (N.tanh (N.mul (drive N d) x)) (N.tanh (drive N d))

/-- `DST.apply(x)` (R189), `d` being `CR.distortion`. -/
def distort {α : Type} (N : NumSys α) (d x : α) : α :=
  N.add (N.mul x (N.sub N.one d)) (N.mul (shaped N d x) d)

/-- `VCA(f, e)` (45_voice.md R199). -/
def amplify {α : Type} (N : NumSys α) (t : Tuning α) (accentLevel f e : α) : α :=
  N.mul (N.mul f e) (N.add N.one (N.mul accentLevel t.accentLoudness))

end Sys2Proof.Machine
end

