-- ==== Sys2Proof/Machine/Oscillator.lean ====
section
/-! DEFINITION. OSC, the band-limited sawtooth and square oscillator (40_oscillator.md). -/

namespace Sys2Proof.Machine

/-- `poly_blep(t, dt)` (R112): the first case that holds is taken. -/
def polyBlep {α : Type} (N : NumSys α) (t dt : α) : α :=
  if N.lt t dt then
    let u := N.div t dt
    N.sub (N.sub (N.mul N.two u) (N.mul u u)) N.one
  else if N.lt (N.sub N.one dt) t then
    let u := N.div (N.sub t N.one) dt
    N.add (N.add (N.mul u u) (N.mul N.two u)) N.one
  else N.zero

/-- `dt <- f / SR` (R111). -/
def phaseIncrement {α : Type} (N : NumSys α) (sr f : α) : α := N.div f sr

/-- `p <- phase + dt; p <- p - floor(p)` (R111). -/
def advancePhase {α : Type} (N : NumSys α) (phase dt : α) : α :=
  let p := N.add phase dt
  N.sub p (N.floor p)

/-- The sawtooth at the advanced phase (R115). -/
def sawSample {α : Type} (N : NumSys α) (p dt : α) : α :=
  N.sub (N.sub (N.mul N.two p) N.one) (polyBlep N p dt)

/-- `(phase + 0.5) mod 1` (R116). -/
def oppositePhase {α : Type} (N : NumSys α) (p : α) : α :=
  let p2 := N.add p (N.lit constHalf)
  if N.le N.one p2 then N.sub p2 N.one else p2

/-- The square at the advanced phase (R116), in either sign convention. -/
def squareSample {α : Type} (N : NumSys α) (sign : SqSign) (p dt : α) : α :=
  let raw := if N.lt p (N.lit constHalf) then N.one else N.neg N.one
  let p2 := oppositePhase N p
  match sign with
  | .corrected => N.sub (N.add raw (polyBlep N p dt)) (polyBlep N p2 dt)
  | .literal => N.add (N.sub raw (polyBlep N p dt)) (polyBlep N p2 dt)

/-- The waveform `CR.waveform` selects (R114). -/
def oscSample {α : Type} (N : NumSys α) (sign : SqSign) (w : Waveform) (p dt : α) : α :=
  match w with
  | .saw => sawSample N p dt
  | .square => squareSample N sign p dt

/-- `OSC.step(f)` (R120): the new phase and the sample. -/
def oscStep {α : Type} (N : NumSys α) (t : Tuning α) (sign : SqSign) (w : Waveform) (phase f : α) :
    α × α :=
  let dt := phaseIncrement N t.sr f
  let p := advancePhase N phase dt
  (p, oscSample N sign w p dt)

end Sys2Proof.Machine
end

