-- ==== Sys2Proof/Machine/Envelope.lean ====
section
/-! DEFINITION. ENV, the decay-only envelope (42_envelope.md). -/

namespace Sys2Proof.Machine

/-- The decay time of a trigger (R151): scaled if the note is accented. -/
def triggerMs {α : Type} (N : NumSys α) (t : Tuning α) (decayMs : α) (accent : Bool) : α :=
  if accent then N.mul decayMs t.accentDecayScale else decayMs

/-- `(ms * SR) / 1000` (R151, R167). -/
def msToSamples {α : Type} (N : NumSys α) (t : Tuning α) (ms : α) : α :=
  N.div (N.mul ms t.sr) (N.ofNat 1000)

/-- `decay_coef` of `ENV.trigger(accent)` (R151). -/
def triggerCoef {α : Type} (N : NumSys α) (t : Tuning α) (decayMs : α) (accent : Bool) : α :=
  N.exp (N.div (N.neg N.one) (msToSamples N t (triggerMs N t decayMs accent)))

/-- The floor test (R154), strict, on the product. -/
def floorEnvelope {α : Type} (N : NumSys α) (t : Tuning α) (v : α) : α :=
  if N.lt v t.envFloor then N.zero else v

/-- The non-finite test (R155). -/
def guardEnvelope {α : Type} (N : NumSys α) (v : α) : α := if N.isFinite v then v else N.zero

/-- `ENV.step()` (R153): the new `env_value`, which is also the value returned. -/
def envelopeStep {α : Type} (N : NumSys α) (t : Tuning α) (envValue decayCoef : α) : α :=
  guardEnvelope N (floorEnvelope N t (N.mul envValue decayCoef))

end Sys2Proof.Machine
end

