-- ==== Sys2Proof/Machine/Slide.lean ====
section
/-! DEFINITION. SLD, the portamento controller (43_slide.md). -/

namespace Sys2Proof.Machine

/-- The condition of `SLD.note` (R166) to glide and not to retrigger; the comparison is strict. -/
def glides {α : Type} (N : NumSys α) (t : Tuning α) (slide : Bool) (envValue : α) : Bool :=
  slide && N.lt t.slideThreshold envValue

/-- The glide coefficient `k` (R167), recomputed from the configuration each time (10_state.md R23). -/
def glideCoef {α : Type} (N : NumSys α) (t : Tuning α) (slideTimeMs : α) : α :=
  N.sub N.one (N.exp (N.div (N.neg N.one) (msToSamples N t slideTimeMs)))

/-- One step of exponential approach (R168). -/
def approach {α : Type} (N : NumSys α) (k freqCurrent freqTarget : α) : α :=
  N.add freqCurrent (N.mul (N.sub freqTarget freqCurrent) k)

/-- The snap (R169), tested after the move, strict. -/
def snap {α : Type} (N : NumSys α) (t : Tuning α) (freqCurrent freqTarget : α) : α :=
  if N.lt (N.abs (N.sub freqTarget freqCurrent)) t.snapHz then freqTarget else freqCurrent

/-- `SLD.step()` (R170): the new `freq_current`, which is also the value returned. -/
def slideStep {α : Type} (N : NumSys α) (t : Tuning α) (slideTimeMs freqCurrent freqTarget : α) : α :=
  snap N t (approach N (glideCoef N t slideTimeMs) freqCurrent freqTarget) freqTarget

end Sys2Proof.Machine
end

