-- ==== Sys2Proof/Machine/Voice.lean ====
section
/-! DEFINITION. VOX, the synth voice (45_voice.md): `NOTE_ON`, `NOTE_OFF` and the per-sample render. -/

namespace Sys2Proof.Machine

variable {α : Type}

/-! ### Notes -/

/-- `SLD.note(m, slide)` (43_slide.md R166), the glide path: only the target moves. -/
def aimGlide (hz : α) (v : VoiceRegs α) : VoiceRegs α := { v with freqTarget := hz }

/-- `SLD.note(m, slide)` (R166), the retrigger path: the pitch jumps. -/
def jumpPitch (hz : α) (v : VoiceRegs α) : VoiceRegs α :=
  { v with freqCurrent := hz, freqTarget := hz }

/-- `accent_level <- CR.accent_amount if accent else 0.0` (R196, R200). -/
def latchAccent (N : NumSys α) (c : ConfigRegs α) (accent : Bool) (v : VoiceRegs α) : VoiceRegs α :=
  { v with accentLevel := if accent then c.accentAmount else N.zero }

/-- `ENV.trigger(accent)` (42_envelope.md R151). -/
def triggerEnvelope (N : NumSys α) (p : Params α) (c : ConfigRegs α) (accent : Bool) (v : VoiceRegs α) :
    VoiceRegs α :=
  { v with envValue := N.one, decayCoef := triggerCoef N p.tuning c.decayMs accent }

/-- `NOTE_ON` of a note number already clamped to 0..127 (R196), on the voice registers. -/
def playNote (N : NumSys α) (p : Params α) (c : ConfigRegs α) (m : BitVec 7) (accent slide : Bool)
    (v : VoiceRegs α) : VoiceRegs α :=
  if glides N p.tuning slide v.envValue then setGate true (aimGlide (noteHz p m) v)
  else
    setGate true
      (triggerEnvelope N p c accent (latchAccent N c accent (jumpPitch (noteHz p m) v)))

/-- `NOTE_ON(midi, accent, slide)` (R196) for a number system. -/
def noteOnWith (N : NumSys α) (midi : BitVec 8) (accent slide : Bool) (e : EngineState α) : EngineState α :=
  e.setVoice (playNote N e.params e.cr (clampNote midi) accent slide e.voice)

/-- `NOTE_OFF()` (R197). -/
def noteOff (e : EngineState α) : EngineState α := e.setVoice (setGate false e.voice)

/-- The command `NOTE_ON` (R196). -/
def execNoteOn (midi : BitVec 8) (accent slide : Bool) (s : State) : Host.Outcome State Fault Refusal :=
  .next (s.onEngine (noteOnWith hardware midi accent slide))

/-- The command `NOTE_OFF` (R197). -/
def execNoteOff (s : State) : Host.Outcome State Fault Refusal := .next (s.onEngine noteOff)

/-! ### The per-sample render (R198) -/

/-- Step 1: the glide writes `freq_current` (R170). -/
def glideVoice (N : NumSys α) (p : Params α) (c : ConfigRegs α) (v : VoiceRegs α) : VoiceRegs α :=
  { v with freqCurrent := slideStep N p.tuning c.slideTimeMs v.freqCurrent v.freqTarget }

/-- Step 2: the oscillator (40_oscillator.md R120) at the frequency just moved to, its new phase and
its sample. -/
def oscillate (N : NumSys α) (p : Params α) (c : ConfigRegs α) (v : VoiceRegs α) : α × α :=
  oscStep N p.tuning p.sqSign c.waveform v.phase v.freqCurrent

/-- Step 2: the oscillator writes `phase`. -/
def setPhase (phase : α) (v : VoiceRegs α) : VoiceRegs α := { v with phase := phase }

/-- Step 3: the envelope step writes `env_value` (42_envelope.md R153). -/
def decayVoice (N : NumSys α) (p : Params α) (v : VoiceRegs α) : VoiceRegs α :=
  { v with envValue := envelopeStep N p.tuning v.envValue v.decayCoef }

/-- The build's `FB_SCALE(resonance, c)` (41_filter.md R134). Log 9. -/
def buildFbScale (N : NumSys α) (p : Params α) : α → α → α :=
  match p.fbLaw with
  | none => fbScale N p.tuning
  | some law => N.fbLaw law

/-- Step 4: the filter (41_filter.md R139) writes `y1`, `y2`, `y3`. -/
def filterVoice (N : NumSys α) (p : Params α) (c : ConfigRegs α) (o : α) (v : VoiceRegs α) : VoiceRegs α :=
  let y :=
    filterStepWith N p.tuning (buildFbScale N p) (filterControls c v) o v.envValue ⟨v.y1, v.y2, v.y3⟩
  { v with y1 := y.y1, y2 := y.y2, y3 := y.y3 }

/-- Steps 5 and 6: the VCA (R199), then the distortion (44_distortion.md R189). -/
def shapeVoice (N : NumSys α) (p : Params α) (c : ConfigRegs α) (v : VoiceRegs α) : α :=
  distort N c.distortion (amplify N p.tuning v.accentLevel v.y3 v.envValue)

/-- `VOX.render()` (R198): the voice's sample and the registers it leaves. -/
def renderVoice (N : NumSys α) (p : Params α) (c : ConfigRegs α) (v : VoiceRegs α) : α × VoiceRegs α :=
  let v1 := glideVoice N p c v
  let o := oscillate N p c v1
  let v2 := setPhase o.1 v1
  let v3 := decayVoice N p v2
  let v4 := filterVoice N p c o.2 v3
  (shapeVoice N p c v4, v4)

end Sys2Proof.Machine
end

