-- ==== Sys2Proof/Machine/Sequencer.lean ====
section
/-! DEFINITION. SEQ, the step sequencer (46_environment.md R236 to R252): its step event, its dispatch
and its eight commands beside `SET_TEMPO` (`Setters.lean`). -/

namespace Sys2Proof.Machine

variable {α : Type}

/-! ### The step event -/

/-- The registers after the count of one more sample (R238). -/
def countedSeq (N : NumSys α) (q : SeqRegs α) : SeqRegs α :=
  { q with samplesIntoStep := countSample N q.samplesIntoStep }

/-- The registers a step event leaves, from those after the count (R238, R252): the count restarts, the
step advances, the length is re-latched from the tempo (R250), both changed-flags are set. -/
def eventSeq (N : NumSys α) (p : Params α) (tempo : α) (q : SeqRegs α) : SeqRegs α :=
  markStepChanged
    { q with
      samplesIntoStep :=
        restartCount N p.seqCarry (q.currentStep == BitVec.ofInt 5 (-1)) q.samplesIntoStep q.samplesPerStep
      currentStep := (nextStep p.steps q.currentStep).setWidth 5
      samplesPerStep := stepLength N p.stepsPerBeat p.tuning.sr tempo }

/-- `SEQ.tick()` (R238): the index of the step event, if there is one, and the registers it leaves. -/
def seqTick (N : NumSys α) (p : Params α) (tempo : α) (q : SeqRegs α) :
    Option (BitVec 4) × SeqRegs α :=
  if q.running then
    if stepDue N (countedSeq N q).samplesIntoStep (countedSeq N q).samplesPerStep then
      (some (nextStep p.steps q.currentStep), eventSeq N p tempo (countedSeq N q))
    else (none, countedSeq N q)
  else (none, q)

/-- `d.ohh ++ d.chh ++ d.snare ++ d.kick` (R233, R248). -/
def trigBits (d : DrumStep) : BitVec 4 :=
  BitVec.ofBool d.ohh ++ BitVec.ofBool d.chh ++ BitVec.ofBool d.snare ++ BitVec.ofBool d.kick

/-- The `NOTE_ON` of an active synth step (R248); an inactive one does nothing to the voice. -/
def playStep (N : NumSys α) (x : SynthStep) (e : EngineState α) : EngineState α :=
  if x.active then noteOnWith N (x.note.setWidth 8) x.accent x.slide e else e

/-- `SEQ.dispatch(i)` (R248): the trigger bits and the state after the step's `NOTE_ON`. -/
def seqDispatch (N : NumSys α) (i : BitVec 4) (e : EngineState α) : BitVec 4 × EngineState α :=
  (trigBits (e.readDrumStep i), playStep N (e.readSynthStep i) e)

/-! ### Commands -/

/-- `START()` (R239). -/
def startSeq (N : NumSys α) (e : EngineState α) : EngineState α :=
  let length := stepLength N e.params.stepsPerBeat e.params.tuning.sr e.cr.tempoBpm
  e.setSeq (setRunning true
    { e.seq with
      currentStep := BitVec.ofInt 5 (-1), samplesPerStep := length, samplesIntoStep := length })

/-- `START` (R239). -/
def execStart (s : State) : Host.Outcome State Fault Refusal := .next (s.onEngine (startSeq hardware))

/-- `STOP()` (R240): stopped, -1, and a `NOTE_OFF`. -/
def stopSeq (e : EngineState α) : EngineState α :=
  noteOff (e.setSeq (setRunning false { e.seq with currentStep := BitVec.ofInt 5 (-1) }))

/-- `STOP` (R240). -/
def execStop (s : State) : Host.Outcome State Fault Refusal := .next (s.onEngine stopSeq)

/-- `SET_SYNTH_STEP` (R242): the note is clamped, the entry written whole, a bad index ignored. -/
def execSetSynthStep (index note : BitVec 8) (accent slide active : Bool) (s : State) :
    Host.Outcome State Fault Refusal :=
  .next (s.onEngine (writeSynthStep index ⟨clampNote note, accent, slide, active⟩))

/-- `SET_DRUM_STEP` (R243). -/
def execSetDrumStep (index : BitVec 8) (kick snare closedHh openHh : Bool) (s : State) :
    Host.Outcome State Fault Refusal :=
  .next (s.onEngine (writeDrumStep index ⟨kick, snare, closedHh, openHh⟩))

/-- `sext_32(current_step)` (R244, 00_scope.md R15 b). -/
def stepWord (q : SeqRegs α) : BitVec 32 := q.currentStep.signExtend 32

/-- `resp <- sext_32(current_step)` (R244, R245). -/
def readStep (e : EngineState α) : EngineState α := e.respond (stepWord e.seq)

/-- `GET_SYNTH_STEP` (R244). -/
def execGetSynthStep (s : State) : Host.Outcome State Fault Refusal := .next (s.answer readStep)

/-- `GET_DRUM_STEP` (R245): the same register (R236). -/
def execGetDrumStep (s : State) : Host.Outcome State Fault Refusal := .next (s.answer readStep)

/-- `SYNTH_STEP_CHANGED()` (R246): the flag, then cleared. -/
def readSynthChanged (e : EngineState α) : EngineState α :=
  (e.respond (flagWord e.seq.synthStepChanged)).setSeq (clearSynthChanged e.seq)

/-- `SYNTH_STEP_CHANGED` (R246). -/
def execSynthStepChanged (s : State) : Host.Outcome State Fault Refusal :=
  .next (s.answer readSynthChanged)

/-- `DRUM_STEP_CHANGED()` (R247): the flag, then cleared. -/
def readDrumChanged (e : EngineState α) : EngineState α :=
  (e.respond (flagWord e.seq.drumStepChanged)).setSeq (clearDrumChanged e.seq)

/-- `DRUM_STEP_CHANGED` (R247). -/
def execDrumStepChanged (s : State) : Host.Outcome State Fault Refusal :=
  .next (s.answer readDrumChanged)

end Sys2Proof.Machine
end

