-- ==== Sys2Proof/Machine/Tick.lean ====
section
/-! DEFINITION. `TICK`, the whole per-sample behaviour (47_mixer.md R270). -/

namespace Sys2Proof.Machine

variable {α : Type}

/-- The first two lines of `TICK` (R270): SEQ's tick, then the dispatch of its event, if there is one;
the trigger bits and the state. -/
def sequence (N : NumSys α) (e : EngineState α) : BitVec 4 × EngineState α :=
  let r := seqTick N e.params e.cr.tempoBpm e.seq
  match r.1 with
  | none => (0#4, e.setSeq r.2)
  | some i => seqDispatch N i (e.setSeq r.2)

/-- The three oracle answers, sanitised (R273). -/
def sanitizeDrums (N : NumSys α) (d : DrumSamples α) : DrumSamples α :=
  ⟨sanitize N d.kick, sanitize N d.snare, sanitize N d.hihat⟩

/-- `MIX.limit(MIX.sum(v, k, sn, hh))` (R271, R272). -/
def mixOut (N : NumSys α) (c : ConfigRegs α) (v : α) (d : DrumSamples α) : α :=
  mixLimit N (mixSum N (gains c) v d.kick d.snare d.hihat)

/-- `n <- (n + 1) mod 2^64` (R274). -/
def EngineState.countTick (e : EngineState α) : EngineState α :=
  { e with sampleCount := e.sampleCount + 1#64 }

/-- The last lines of `TICK` (R270), from the trigger bits and the drum voices' answer: render, mix,
limit, count, emit. -/
def finishTick (N : NumSys α) (trig : BitVec 4) (d : DrumSamples α) (e : EngineState α) : EngineState α :=
  let r := renderVoice N e.params e.cr e.voice
  ((e.setVoice r.2).countTick).emit (mixOut N e.cr r.1 (sanitizeDrums N d)) trig

/-- `TICK()` (R270) for a number system and a `DrumOracle` (R232). -/
def tickWith (N : NumSys α) (oracle : DrumOracle α) (e : EngineState α) : EngineState α :=
  let r := sequence N e
  finishTick N r.1 (oracle r.1) r.2

/-- `TICK` (R270). -/
def execTick (s : State) : Host.Outcome State Fault Refusal :=
  .next (s.onEngine (tickWith hardware s.drumOracle)).sampleDone

end Sys2Proof.Machine
end

