-- ==== Sys2Proof/Machine/Dispatch.lean ====
section
/-! DEFINITION. One arm per command, each a direct call of its meaning. -/

namespace Sys2Proof.Machine

def exec (i : Instr) (s : State) : Host.Outcome State Fault Refusal :=
  match i with
  | .tick => Sys2Proof.Machine.execTick s
  | .noteOn midi accent slide => Sys2Proof.Machine.execNoteOn midi accent slide s
  | .noteOff => Sys2Proof.Machine.execNoteOff s
  | .start => Sys2Proof.Machine.execStart s
  | .stop => Sys2Proof.Machine.execStop s
  | .setWaveform value => Sys2Proof.Machine.execSetWaveform value s
  | .setCutoff v => Sys2Proof.Machine.execSetCutoff v s
  | .setResonance v => Sys2Proof.Machine.execSetResonance v s
  | .setEnvMod v => Sys2Proof.Machine.execSetEnvMod v s
  | .setDecay v => Sys2Proof.Machine.execSetDecay v s
  | .setAccent v => Sys2Proof.Machine.execSetAccent v s
  | .setSlideTime v => Sys2Proof.Machine.execSetSlideTime v s
  | .setDistortion v => Sys2Proof.Machine.execSetDistortion v s
  | .setTempo v => Sys2Proof.Machine.execSetTempo v s
  | .setSynthVolume v => Sys2Proof.Machine.execSetSynthVolume v s
  | .setDrumVolume v => Sys2Proof.Machine.execSetDrumVolume v s
  | .setKickVolume v => Sys2Proof.Machine.execSetKickVolume v s
  | .setSnareVolume v => Sys2Proof.Machine.execSetSnareVolume v s
  | .setHihatVolume v => Sys2Proof.Machine.execSetHihatVolume v s
  | .setSynthStep index note accent slide active => Sys2Proof.Machine.execSetSynthStep index note accent slide active s
  | .setDrumStep index kick snare closedHh openHh => Sys2Proof.Machine.execSetDrumStep index kick snare closedHh openHh s
  | .getSynthStep => Sys2Proof.Machine.execGetSynthStep s
  | .getDrumStep => Sys2Proof.Machine.execGetDrumStep s
  | .synthStepChanged => Sys2Proof.Machine.execSynthStepChanged s
  | .drumStepChanged => Sys2Proof.Machine.execDrumStepChanged s

end Sys2Proof.Machine
end

