-- ==== Sys2Proof/Machine/Step.lean ====
section
/-! DEFINITION. One step (00_scope.md R13): the hardware accepts what stands first on its port and
performs it completely (20_memory.md R66). -/

namespace Sys2Proof.Machine

/-- A word accepted: its command performed, or, if it is reserved, ignored (30_encoding.md R91, R92,
R95). `s` is the state with the word already taken from the port. -/
def performWord (w : CmdWord) (s : State) : Host.Outcome State Fault Refusal :=
  match decode w with
  | .ok i => exec i s
  | .error _ => .next s

/-- One step. With nothing on the port the hardware holds its state (60_exceptions.md R305). -/
def step (s : State) : Host.Outcome State Fault Refusal :=
  match s.port with
  | [] => .next (s.accept [])
  | .command w :: rest => performWord w (s.accept rest)
  | .reset sr :: rest => resetStep s sr rest

/-- `s` with a command word put first on the port, so that the very next step accepts it. -/
def State.withFetchWord (s : State) (nbits w : Nat) : State :=
  { s with port := .command (tableWord nbits w) :: s.port }

end Sys2Proof.Machine
end

