-- ==== Sys2Proof/Machine/Presets.lean ====
section
/-! DEFINITION. The host's pseudo-instructions (30_encoding.md R97), its preset table (46_environment.md
R254) and D0's remaining API entries (R98). None of this is in the hardware: each is a function to
ordinary commands. -/

namespace Sys2Proof.Machine

/-- `PROCESS n` (R97, 47_mixer.md R280): `TICK` repeated. -/
def processBuffer (n : Nat) : List Instr := List.replicate n .tick

/-- `NOP` (R97): the all-zero word, a reserved encoding. -/
def nopWord : CmdWord := 0x0000000000#40

/-- The `voice_config` of a preset (R97, R254): the values of the eight voice setters 0x10 to 0x17.
Log 17. -/
structure VoiceConfig where
  waveform : BitVec 32
  cutoff : F32
  resonance : F32
  envMod : F32
  decay : F32
  accent : F32
  slideTime : F32
  distortion : F32
deriving DecidableEq, Repr

/-- One step of a preset: the operands of `SET_SYNTH_STEP` after the index. -/
structure PresetStep where
  note : BitVec 8
  accent : Bool
  slide : Bool
  active : Bool
deriving DecidableEq, Repr

/-- "A preset is `name, tempo, voice_config, steps[16]`" (R254). -/
structure Preset where
  name : String
  tempo : F32
  voiceConfig : VoiceConfig
  steps : Vector PresetStep 16
deriving DecidableEq, Repr

/-- `PRESETS` (00_scope.md R5): the spec gives no contents; empty by default. -/
def defaultPresets : List Preset := []

/-- The eight voice setters 0x10 to 0x17 with a preset's values (R97). -/
def voiceSetters (v : VoiceConfig) : List Instr :=
  [ .setWaveform v.waveform, .setCutoff v.cutoff, .setResonance v.resonance, .setEnvMod v.envMod,
    .setDecay v.decay, .setAccent v.accent, .setSlideTime v.slideTime, .setDistortion v.distortion ]

/-- `SET_SYNTH_STEP k, ...` for `k` = 0 to 15 (R97). -/
def stepSetters (steps : Vector PresetStep 16) : List Instr :=
  steps.toList.mapIdx fun k e => .setSynthStep (BitVec.ofNat 8 k) e.note e.accent e.slide e.active

/-- `LOAD_SYNTH_PRESET i` (R97): nothing, if the index is at or past the count. -/
def loadSynthPreset (presets : List Preset) (i : Nat) : List Instr :=
  match presets[i]? with
  | none => []
  | some p => .setTempo p.tempo :: (voiceSetters p.voiceConfig ++ stepSetters p.steps)

/-- `preset_count() -> u32` (R98). -/
def presetCount (presets : List Preset) : BitVec 32 := BitVec.ofNat 32 presets.length

/-- `preset_name(i) -> string` (R98); the spec names no answer for an index past the count. -/
def presetName (presets : List Preset) (i : Nat) : Option String := (presets[i]?).map (·.name)

end Sys2Proof.Machine
end

