-- ==== Sys2Proof/Machine/Assembler.lean ====
section
/-! DEFINITION. The text form of a command stream (30_encoding.md R96, with the pseudo-instructions of
R97): one command a line, mnemonic, then operands separated by commas; `#` starts a comment. Text the
rule does not describe assembles to nothing (log 16). -/

namespace Sys2Proof.Machine

/-! ### Characters -/

/-- Blank characters within a line. -/
def isBlank (c : Char) : Bool := c == ' ' || c == '\t' || c == '\r'

/-- A piece of text without the blanks at its two ends. -/
def trimText (cs : List Char) : List Char :=
  ((cs.dropWhile isBlank).reverse.dropWhile isBlank).reverse

/-- The pieces of a text between occurrences of a separator; `acc` is the piece begun, reversed. -/
def splitText (sep : Char) : (acc : List Char) → List Char → List (List Char)
  | acc, [] => [acc.reverse]
  | acc, c :: cs => if c == sep then acc.reverse :: splitText sep [] cs else splitText sep (c :: acc) cs

/-- The value of a digit in a base up to 16. -/
def digitValue (base : Nat) (c : Char) : Option Nat :=
  let n := c.toNat
  let v := if 48 ≤ n ∧ n ≤ 57 then n - 48
    else if 97 ≤ n ∧ n ≤ 102 then n - 87
    else if 65 ≤ n ∧ n ≤ 70 then n - 55
    else 16
  if v < base then some v else none

/-- A run of digits with no other character, continuing the number `acc`. -/
def digitsFrom (base : Nat) : (acc : Nat) → List Char → Option Nat
  | acc, [] => some acc
  | acc, c :: cs => (digitValue base c).bind fun d => digitsFrom base (acc * base + d) cs

/-- A non-empty run of digits. -/
def digits (base : Nat) (cs : List Char) : Option Nat :=
  if cs.isEmpty then none else digitsFrom base 0 cs

/-! ### Operands (R96) -/

/-- An unsigned integer, decimal or `0x` hexadecimal, of any size. -/
def parseNat (cs : List Char) : Option Nat :=
  match cs with
  | '0' :: 'x' :: rest => digits 16 rest
  | _ => digits 10 cs

/-- An unsigned integer that must fit a field: below a bound (log 16). -/
def parseInteger (bound : Nat) (cs : List Char) : Option Nat := (parseNat cs).filter (· < bound)

/-- A boolean, `0` or `1`. -/
def parseFlag (cs : List Char) : Option Bool :=
  if cs == ['0'] then some false else if cs == ['1'] then some true else none

/-- A byte operand. -/
def parseByte (cs : List Char) : Option (BitVec 8) := (parseInteger 256 cs).map (BitVec.ofNat 8)

/-- `saw`, `square` or an integer. -/
def parseWaveform (cs : List Char) : Option (BitVec 32) :=
  if cs == "saw".toList then some 0#32
  else if cs == "square".toList then some 1#32
  else (parseInteger (2 ^ 32) cs).map (BitVec.ofNat 32)

/-- `fl` of `± mantissa * 10^(up - down)`. DESIGN CHOICE, where R96 and R11 are silent: a negative literal
that is zero or rounds to zero is `-0.0`, and one that rounds past the greatest finite value is the infinity
of its sign (log 16). -/
def decimalValue (negative : Bool) (mantissa up down : Nat) : F32 :=
  F32.fl negative (mantissa * 10 ^ (up - down)) (down - up)

/-- The exponent part of a decimal literal, after its `e`: the power to multiply and to divide by.
DESIGN CHOICE, where R96 shows `1e-5` alone: it may have a plus sign or none (log 16). -/
def parseExponent : List Char → Option (Nat × Nat)
  | '-' :: rest => (digits 10 rest).map fun n => (0, n)
  | '+' :: rest => (digits 10 rest).map fun n => (n, 0)
  | rest => (digits 10 rest).map fun n => (n, 0)

/-- A decimal literal without its sign: digits, perhaps a fraction, perhaps an exponent. -/
def parseUnsigned (negative : Bool) (cs : List Char) : Option F32 :=
  let body := cs.takeWhile (· != 'e')
  let exponent := match cs.dropWhile (· != 'e') with
    | [] => some (0, 0)
    | _ :: rest => parseExponent rest
  let whole := body.takeWhile (· != '.')
  let fraction := (body.dropWhile (· != '.')).drop 1
  let hasPoint := body.contains '.'
  if whole.isEmpty || (hasPoint && fraction.isEmpty) then none
  else
    (digits 10 (whole ++ fraction)).bind fun m =>
      exponent.map fun (up, down) => decimalValue negative m up (down + fraction.length)

/-- A float operand: a decimal literal, `bits:0x` and eight hexadecimal digits, `nan`, `inf`, `-inf`. -/
def parseFloat (cs : List Char) : Option F32 :=
  if cs == "nan".toList then some 0x7FC00000#32
  else if cs == "inf".toList then some 0x7F800000#32
  else if cs == "-inf".toList then some 0xFF800000#32
  else if cs.take 7 == "bits:0x".toList then
    (if cs.length = 15 then (digits 16 (cs.drop 7)).map (BitVec.ofNat 32) else none)
  else match cs with
    | '-' :: rest => parseUnsigned true rest
    | _ => parseUnsigned false cs

/-! ### Lines -/

/-- A command with no operand. -/
def noOperand (i : Instr) (ops : List (List Char)) : Option Instr :=
  match ops with
  | [] => some i
  | _ => none

/-- A command with one float operand. -/
def oneFloat (mk : F32 → Instr) (ops : List (List Char)) : Option Instr :=
  match ops with
  | [v] => (parseFloat v).map mk
  | _ => none

/-- `NOTE_ON midi, accent, slide`. -/
def noteOperands (ops : List (List Char)) : Option Instr :=
  match ops with
  | [m, a, s] => do
    let midi ← parseByte m
    let accent ← parseFlag a
    let slide ← parseFlag s
    return .noteOn midi accent slide
  | _ => none

/-- `SET_WAVEFORM w`. -/
def waveformOperand (ops : List (List Char)) : Option Instr :=
  match ops with
  | [w] => (parseWaveform w).map .setWaveform
  | _ => none

/-- `SET_SYNTH_STEP i, note, accent, slide, active`. -/
def synthStepOperands (ops : List (List Char)) : Option Instr :=
  match ops with
  | [i, n, a, s, v] => do
    let index ← parseByte i
    let note ← parseByte n
    let accent ← parseFlag a
    let slide ← parseFlag s
    let active ← parseFlag v
    return .setSynthStep index note accent slide active
  | _ => none

/-- `SET_DRUM_STEP i, kick, snare, closed_hh, open_hh`. -/
def drumStepOperands (ops : List (List Char)) : Option Instr :=
  match ops with
  | [i, k, n, c, o] => do
    let index ← parseByte i
    let kick ← parseFlag k
    let snare ← parseFlag n
    let closedHh ← parseFlag c
    let openHh ← parseFlag o
    return .setDrumStep index kick snare closedHh openHh
  | _ => none

/-- The mnemonics of R90, each with its operand reader (R96). -/
def mnemonicTable : List (String × (List (List Char) → Option Instr)) :=
  [ ("TICK", noOperand .tick), ("NOTE_ON", noteOperands), ("NOTE_OFF", noOperand .noteOff),
    ("START", noOperand .start), ("STOP", noOperand .stop), ("SET_WAVEFORM", waveformOperand),
    ("SET_CUTOFF", oneFloat .setCutoff), ("SET_RESONANCE", oneFloat .setResonance),
    ("SET_ENV_MOD", oneFloat .setEnvMod), ("SET_DECAY", oneFloat .setDecay),
    ("SET_ACCENT", oneFloat .setAccent), ("SET_SLIDE_TIME", oneFloat .setSlideTime),
    ("SET_DISTORTION", oneFloat .setDistortion), ("SET_TEMPO", oneFloat .setTempo),
    ("SET_SYNTH_VOLUME", oneFloat .setSynthVolume), ("SET_DRUM_VOLUME", oneFloat .setDrumVolume),
    ("SET_KICK_VOLUME", oneFloat .setKickVolume), ("SET_SNARE_VOLUME", oneFloat .setSnareVolume),
    ("SET_HIHAT_VOLUME", oneFloat .setHihatVolume), ("SET_SYNTH_STEP", synthStepOperands),
    ("SET_DRUM_STEP", drumStepOperands), ("GET_SYNTH_STEP", noOperand .getSynthStep),
    ("GET_DRUM_STEP", noOperand .getDrumStep), ("SYNTH_STEP_CHANGED", noOperand .synthStepChanged),
    ("DRUM_STEP_CHANGED", noOperand .drumStepChanged) ]

/-- The words of one command or pseudo-instruction (R96, R97). The `n` of `PROCESS` is any integer of 1
or more: "Buffer length is arbitrary (≥ 1)" (R97, 47_mixer.md R280), so no greatest `n` is set. The index
of `LOAD_SYNTH_PRESET` is a `u8` (R97). -/
def assembleCommand (presets : List Preset) (mnemonic : List Char) (ops : List (List Char)) :
    Option (List CmdWord) :=
  if mnemonic == "NOP".toList then (if ops.isEmpty then some [nopWord] else none)
  else if mnemonic == "PROCESS".toList then
    match ops with
    | [n] => ((parseNat n).filter (1 ≤ ·)).map fun n => (processBuffer n).map encode
    | _ => none
  else if mnemonic == "LOAD_SYNTH_PRESET".toList then
    match ops with
    | [i] => (parseInteger 256 i).map fun i => (loadSynthPreset presets i).map encode
    | _ => none
  else
    match mnemonicTable.find? fun row => row.1.toList == mnemonic with
    | some row => (row.2 ops).map fun i => [encode i]
    | none => none

/-- The words of one line (R96): comment off, blank line nothing. -/
def assembleLine (presets : List Preset) (line : List Char) : Option (List CmdWord) :=
  let text := trimText (line.takeWhile (· != '#'))
  let mnemonic := text.takeWhile (fun c => !isBlank c)
  let rest := trimText (text.dropWhile (fun c => !isBlank c))
  if text.isEmpty then some []
  else assembleCommand presets mnemonic
    (if rest.isEmpty then [] else (splitText ',' [] rest).map trimText)

/-- The words of all lines, in order; nothing if any line is not of the form. -/
def assembleLines (presets : List Preset) : List (List Char) → Option (List CmdWord)
  | [] => some []
  | line :: rest => do
    let ws ← assembleLine presets line
    let more ← assembleLines presets rest
    return ws ++ more

/-- The command stream a text stands for (R96). -/
def assemble (presets : List Preset) (text : String) : Option (List CmdWord) :=
  assembleLines presets (splitText '\n' [] text.toList)

end Sys2Proof.Machine
end

