-- ==== Sys2Proof/Machine/RealNum.lean ====
section
/-! DEFINITION. The real reading of the rules (00_scope.md R7, R8: "the same rules can also be read over
the real numbers"). The machine does not use it; statements about the rules that say "in real
arithmetic" (R113, R119, R140, R157, R173, R190) do. Log 15. -/

namespace Sys2Proof

/-- The real number a finite binary32 value stands for (R7). -/
noncomputable def F32.toReal (x : F32) : ℝ := (F32.toInt x : ℝ) / 2 ^ 149

/-- `r` is the real `x` rounded to nearest, ties to even (R8): among the finite values none is nearer to
`x`, and of two equally near the one with the even fraction is taken; from `2^128 - 2^103` in magnitude
on (halfway past the greatest finite value), an infinity of the sign of `x`. -/
def F32.RoundsTo (r : F32) (x : ℝ) : Prop :=
  (F32.isFinite r = true ∧ |x| < 2 ^ 128 - 2 ^ 103 ∧
      (∀ y : F32, F32.isFinite y = true → |F32.toReal r - x| ≤ |F32.toReal y - x|) ∧
      (∀ y : F32, F32.isFinite y = true → F32.toReal y ≠ F32.toReal r →
        |F32.toReal y - x| = |F32.toReal r - x| → F32.mag r % 2 = 0)) ∨
    (F32.isInf r = true ∧ 2 ^ 128 - 2 ^ 103 ≤ |x| ∧ (F32.sign r = true ↔ x < 0))

/-- The number system of the reals: exact operations, no infinities and no NaNs. -/
noncomputable def realNum : NumSys ℝ where
  add := fun a b => a + b
  sub := fun a b => a - b
  mul := fun a b => a * b
  div := fun a b => a / b
  neg := fun a => -a
  abs := fun a => |a|
  floor := fun a => (⌊a⌋ : ℝ)
  exp := Real.exp
  tanh := Real.tanh
  lt := fun a b => decide (a < b)
  le := fun a b => decide (a ≤ b)
  isFinite := fun _ => true
  isNaN := fun _ => false
  ofNat := fun n => (n : ℝ)
  lit := F32.toReal
  fbLaw := Config.realFbScaleLaw

end Sys2Proof
end

