-- ==== Sys2Proof/Machine/Stream.lean ====
section
/-! DEFINITION. Streams of commands and the outputs they make (00_scope.md R13, 20_memory.md R66,
47_mixer.md R280): what a host sees of a run. -/

namespace Sys2Proof.Machine

/-- The state after a command. Every command answers a next state (60_exceptions.md R290); the other
outcomes would leave the state. -/
def afterCommand (i : Instr) (s : State) : State :=
  match exec i s with
  | .next t => t
  | _ => s

/-- One accepted command: the pulses of the one before end, then the command is performed. -/
def performCommand (i : Instr) (s : State) : State := afterCommand i (s.accept s.port)

/-- The state after a stream of commands, performed in order (R66). -/
def runStream : List Instr → State → State
  | [], s => s
  | i :: rest, s => runStream rest (performCommand i s)

/-- The outputs of a stream of commands, one for each command, in order. -/
def streamOutputs : List Instr → State → List Outputs
  | [], _ => []
  | i :: rest, s => (performCommand i s).outputs :: streamOutputs rest (performCommand i s)

/-- The sample stream (20_memory.md R60): the samples a stream of commands makes, in order. -/
def streamSamples (cs : List Instr) (s : State) : List F32 := (streamOutputs cs s).filterMap (·.sample)

/-- The response stream: the responses a stream of commands makes, in order. -/
def streamResponses (cs : List Instr) (s : State) : List (BitVec 32) :=
  (streamOutputs cs s).filterMap (·.response)

/-- The step event a command makes, if it is a `TICK` that makes one (46_environment.md R238). -/
def stepEvent (i : Instr) (s : State) : Option (BitVec 4) :=
  match i with
  | .tick => (seqTick hardware s.params s.cr.tempoBpm s.seq).1
  | _ => none

/-- The indices of the step events a stream of commands makes, in order. -/
def stepEvents : List Instr → State → List (BitVec 4)
  | [], _ => []
  | i :: rest, s => (stepEvent i s).toList ++ stepEvents rest (performCommand i s)

end Sys2Proof.Machine
end

