-- ==== Sys2Proof/Safety.lean ====
section
/-! DEFINITION. What counts as a safe state and a safe step: the invariants of 10_state.md R47 and the
absence of stops of 60_exceptions.md R290. -/

namespace Sys2Proof.Machine

/-- `0.0 <= x <= 1.0`; false for a NaN. -/
def inUnit (x : F32) : Bool := F32.le 0x00000000#32 x && F32.le x 0x3F800000#32

/-- `-1.0 <= x <= 1.0`; false for a NaN (R47, last row). -/
def inOutRange (x : F32) : Bool := F32.le 0xBF800000#32 x && F32.le x 0x3F800000#32

/-- `0 <= phase < 1` (R21). -/
def phaseOk (x : F32) : Bool := F32.le 0x00000000#32 x && F32.lt x 0x3F800000#32

/-- `NOTE_HZ[0] <= f <= NOTE_HZ[127]` (R47). -/
def inNoteRange (f : F32) : Bool := F32.le 0x4102D013#32 f && F32.le f 0x4643FF6A#32

/-- R47, second row: before the first `NOTE_ON` both frequencies are the zero of reset (and the envelope
is still zero); after it both lie in `[NOTE_HZ[0], NOTE_HZ[127]]`. -/
def freqOk (v : VoiceRegs F32) : Bool :=
  (v.freqCurrent == 0#32 && v.freqTarget == 0#32 && v.envValue == 0#32)
    || (inNoteRange v.freqCurrent && inNoteRange v.freqTarget)

/-- R47, the rows of the voice registers. -/
def voiceOk (v : VoiceRegs F32) : Bool :=
  phaseOk v.phase && freqOk v && inUnit v.envValue && inUnit v.decayCoef
    && F32.isFinite v.y1 && F32.isFinite v.y2 && F32.isFinite v.y3 && inUnit v.accentLevel

/-- One configuration register within its legal values and not a NaN (R38, R47). -/
def regOk (c : ConfigRegs F32) (r : FloatReg) : Bool :=
  F32.le (FloatReg.lo r) (readReg c r) && F32.le (readReg c r) (FloatReg.hi r)

/-- Every configuration register legal (R47). -/
def configOk (c : ConfigRegs F32) : Bool :=
  regOk c .cutoffHz && regOk c .resonance && regOk c .envMod && regOk c .decayMs
    && regOk c .accentAmount && regOk c .slideTimeMs && regOk c .distortion && regOk c .tempoBpm
    && regOk c .synthGain && regOk c .drumMasterGain && regOk c .kickGain && regOk c .snareGain
    && regOk c .hihatGain

/-- `-1 <= current_step <= 15`; `running = 0` implies `current_step = -1` (R47). -/
def seqOk (q : SeqRegs F32) : Bool :=
  decide (-1 ≤ q.currentStep.toInt) && decide (q.currentStep.toInt ≤ 15)
    && (q.running || q.currentStep == BitVec.ofInt 5 (-1))

/-- A build the derived figures of the spec are given for: an admitted `SR` (R5), the default constants
and ROM, a legal `RESET_CFG`; `SQ_SIGN` and `SEQ_CARRY` either way. -/
def buildOk (p : Params F32) : Bool :=
  sampleRateAdmitted p.tuning.sr && p.tuning == defaultTuning p.tuning.sr && p.fbLaw == none
    && p.noteHz == noteHzTable && configOk p.resetCfg

/-- The invariants of R47. (`PAT_S[i].note <= 127` holds by the 7-bit type of the field.) -/
def stateOk (s : State) : Bool :=
  buildOk s.params && voiceOk s.voice && configOk s.cr && seqOk s.seq && inOutRange s.out

/-- The step goes on: no fault and no refusal. -/
def goesOn (o : Host.Outcome State Fault Refusal) : Bool :=
  match o with
  | .next _ => true
  | _ => false

/-! ### Terms of the statements -/

/-- Either zero: "every rule that says "zero" means either zero" (00_scope.md R8). -/
def isZero (x : F32) : Bool := F32.mag x == 0

/-- The 13 float setters with an operand, each with the register it writes and that register's lower and
upper bound (10_state.md R38). -/
def floatSetters (v : F32) : List (Instr × FloatReg × F32 × F32) :=
  [ (.setCutoff v, .cutoffHz, 0x41A00000#32, 0x469C4000#32),        -- 20, 20000
    (.setResonance v, .resonance, 0x00000000#32, 0x3F800000#32),    -- 0, 1
    (.setEnvMod v, .envMod, 0x00000000#32, 0x3F800000#32),
    (.setDecay v, .decayMs, 0x41200000#32, 0x44FA0000#32),          -- 10, 2000
    (.setAccent v, .accentAmount, 0x00000000#32, 0x3F800000#32),
    (.setSlideTime v, .slideTimeMs, 0x41200000#32, 0x43480000#32),  -- 10, 200
    (.setDistortion v, .distortion, 0x00000000#32, 0x3F800000#32),
    (.setTempo v, .tempoBpm, 0x42700000#32, 0x43480000#32),         -- 60, 200
    (.setSynthVolume v, .synthGain, 0x00000000#32, 0x3F800000#32),
    (.setDrumVolume v, .drumMasterGain, 0x00000000#32, 0x3F800000#32),
    (.setKickVolume v, .kickGain, 0x00000000#32, 0x3F800000#32),
    (.setSnareVolume v, .snareGain, 0x00000000#32, 0x3F800000#32),
    (.setHihatVolume v, .hihatGain, 0x00000000#32, 0x3F800000#32) ]

/-- A state with the gate bit and the two pulses taken out of the comparison (45_voice.md R197: "the
same state but for the `gate` bit"). -/
def withoutGate (s : State) : State :=
  { s with voice := setGate false s.voice, outValid := false, respValid := false }

/-- What stands first on the port is a reset with an `SR` the build refuses (R321). -/
def resetRefused (s : State) : Bool :=
  match s.port with
  | .reset sr :: _ => !sampleRateAdmitted sr
  | _ => false

end Sys2Proof.Machine
end

