-- ==== Sys2Proof/Certificates/Slice0/Obligations.lean ====
section
/-! DEFINITION. The statements for the provers, one `def Obligations.<Name> : Prop` each, listed in
OBLIGATIONS.json. "R<n>" is a rule of spec/; "log <n>" is notes/assumptions/<n>.md. -/

open Sys2Proof Sys2Proof.Machine

/-! ### The step -/

/-- A word on the port that decodes is performed: the step is `exec` of the decoded command, on the state
with the word taken from the port and the pulses of the step before ended. The pulses and the list that
stands for the port are the model's form of R44 and R66 (logs 6, 10). -/
def Obligations.StepRunsTheDecodedCommand : Prop :=
  ∀ (s : State) (w : CmdWord) (i : Instr) (rest : List PortEvent),
    s.port = .command w :: rest → decode w = .ok i →
      step s = exec i { s with port := rest, outValid := false, respValid := false }

/-- R305: with nothing on the port the hardware holds its state; only the pulses of the step before end,
which is the model's choice of when a pulse ends (log 10). -/
def Obligations.IdleStepHoldsTheState : Prop :=
  ∀ s : State, s.port = [] → step s = .next { s with outValid := false, respValid := false }

/-- R91 and R92: the 231 reserved opcodes are those listed; a word with one, or with a defined opcode and
a 1 in a "zero" bit (so that it matches no row of R90), is accepted and nothing else happens. The list that
stands for the port, that the pulses of the step before end here, and that the model ignores the word where
R91 lets it refuse, are the model's choices (logs 6, 10, 12). -/
def Obligations.ReservedWordIsIgnored : Prop :=
  (∀ (op : BitVec 8) (arg : BitVec 32),
    opcodeDefined (commandWord op arg) = false ↔
      (op.toNat = 0x00 ∨ (0x06 ≤ op.toNat ∧ op.toNat ≤ 0x0F) ∨ (0x19 ≤ op.toNat ∧ op.toNat ≤ 0x1F) ∨
        (0x25 ≤ op.toNat ∧ op.toNat ≤ 0x2F) ∨ (0x32 ≤ op.toNat ∧ op.toNat ≤ 0x3F) ∨
        0x44 ≤ op.toNat)) ∧
  ∀ (s : State) (w : CmdWord) (rest : List PortEvent),
    s.port = .command w :: rest → (∀ r ∈ opcodeRows, r.matches w = false) →
      step s = .next { s with port := rest, outValid := false, respValid := false }

/-- R290: every one of the 2^40 words, in every state, completes. The second clause says it of the model's
steps: each completes, an idle one and an admitted reset too, but not a reset with a sample rate that the
build refuses (R321); that a step takes one entry of a port list, that an empty list makes an idle step and
that a reset is such an entry are the model's choices (logs 6, 7). -/
def Obligations.EveryCommandWordCompletes : Prop :=
  (∀ (w : CmdWord) (s : State), ∃ t, performWord w s = .next t) ∧
  ∀ s : State, resetRefused s = false → ∃ t, step s = .next t

/-- R320, R321: an assertion of `rst` with an admitted `SR` gives every piece of state the value of R46
and samples `SR`; with any other `SR` the build is refused. That the refused rate stops the step, and
that the environment keeps its own record, are the model's form (log 7). -/
def Obligations.ResetGivesTheResetState : Prop :=
  ∀ (s : State) (sr : F32) (rest : List PortEvent), s.port = .reset sr :: rest →
    (sampleRateAdmitted sr = false → step s = .refused (.sampleRateNotAdmitted sr)) ∧
    (sampleRateAdmitted sr = true → ∃ t, step s = .next t ∧
      t.params = { s.params with tuning := { s.params.tuning with sr := sr } } ∧
      t.voice = { phase := 0#32, freqCurrent := 0#32, freqTarget := 0#32, gate := false,
                  envValue := 0#32, decayCoef := 0#32, y1 := 0#32, y2 := 0#32, y3 := 0#32,
                  accentLevel := 0#32 } ∧
      t.sampleCount = 0#64 ∧
      t.seq.running = false ∧ t.seq.currentStep.toInt = -1 ∧
      t.seq.samplesPerStep =
        F32.div (F32.mul sr 0x42700000#32)
          (F32.mul s.params.resetCfg.tempoBpm (F32.ofNat s.params.stepsPerBeat)) ∧
      t.seq.samplesIntoStep = 0#32 ∧ t.seq.synthStepChanged = false ∧ t.seq.drumStepChanged = false ∧
      t.cr = s.params.resetCfg ∧
      (∀ k, t.readSynthStep k = ⟨0#7, false, false, false⟩) ∧
      (∀ k, t.readDrumStep k = ⟨false, false, false, false⟩) ∧
      t.out = 0#32 ∧ t.resp = 0#32 ∧ t.trig = 0#4 ∧
      t.port = rest ∧ t.drumIn = s.drumIn ∧ t.drumEnv = s.drumEnv ∧ t.trigHistory = s.trigHistory)

/-- R46 with R40 and R172: the values of every piece of the hardware's state right after reset, the
parameters at their defaults. -/
def Obligations.ResetValuesAreTheTable : Prop :=
  State.reset.voice =
    { phase := 0#32, freqCurrent := 0#32, freqTarget := 0#32, gate := false, envValue := 0#32,
      decayCoef := 0#32, y1 := 0#32, y2 := 0#32, y3 := 0#32, accentLevel := 0#32 } ∧
  State.reset.sampleCount = 0#64 ∧
  State.reset.seq =
    { running := false, currentStep := 0x1F#5, samplesPerStep := 0x45AC4400#32,
      samplesIntoStep := 0#32, synthStepChanged := false, drumStepChanged := false } ∧
  State.reset.cr =
    { waveform := .saw, cutoffHz := 0x447A0000#32, resonance := 0x3F000000#32,
      envMod := 0x3F000000#32, decayMs := 0x42C80000#32, accentAmount := 0x3F000000#32,
      slideTimeMs := 0x42700000#32, distortion := 0x00000000#32, tempoBpm := 0x42F00000#32,
      synthGain := 0x3F000000#32, drumMasterGain := 0x3F000000#32, kickGain := 0x3F000000#32,
      snareGain := 0x3F000000#32, hihatGain := 0x3F000000#32 } ∧
  State.reset.params.resetCfg = State.reset.cr ∧
  (∀ k, State.reset.readSynthStep k = ⟨0#7, false, false, false⟩) ∧
  (∀ k, State.reset.readDrumStep k = ⟨false, false, false, false⟩) ∧
  State.reset.params.noteHz = noteHzTable ∧
  State.reset.out = 0#32 ∧ State.reset.resp = 0#32 ∧ State.reset.trig = 0#4

/-! ### Encoding -/

/-- Words written in the examples of R96 (and of R242, R243, R210) decode to the commands they stand
for, one at least of every format of R81. -/
def Obligations.SpecExampleWordsDecode : Prop :=
  decode 0x0100000000#40 = .ok .tick ∧
  decode 0x020000002D#40 = .ok (.noteOn 45#8 false false) ∧
  decode 0x0200000330#40 = .ok (.noteOn 48#8 true true) ∧
  decode 0x1000000001#40 = .ok (.setWaveform 1#32) ∧
  decode 0x11447A0000#40 = .ok (.setCutoff 0x447A0000#32) ∧
  decode 0x223F4CCCCD#40 = .ok (.setKickVolume 0x3F4CCCCD#32) ∧
  decode 0x3000063001#40 = .ok (.setSynthStep 1#8 48#8 false true true) ∧
  decode 0x3100000304#40 = .ok (.setDrumStep 4#8 true true false false) ∧
  decode 0x4200000000#40 = .ok .synthStepChanged ∧
  decode 0x0100000001#40 = .error (.zeroBits 0x01#8 0x00000001#32) ∧
  decode 0xFF12345678#40 = .error (.opcode 0xFF#8)

/-- R95: encode then decode is the identity on commands, with every operand at every value; decode then
encode is the identity on the words that are not reserved. -/
def Obligations.DecodeAndEncodeAreInverse : Prop :=
  (∀ i : Instr, decode (encode i) = .ok i) ∧
  ∀ (w : CmdWord) (i : Instr), decode w = .ok i → encode i = w

/-- R90: the decoder accepts a word exactly if `w & mask = match` for a row of the table, that row is the
only one, and the command is that row's; the setters' register numbers are `op - 0x10` and
`op - 0x20 + 9`. -/
def Obligations.DecoderFollowsTheOpcodeTable : Prop :=
  opcodeRows.length = 25 ∧
  (∀ w : CmdWord, (∃ i, decode w = .ok i) ↔ ∃ r ∈ opcodeRows, r.matches w = true) ∧
  (∀ (w : CmdWord) (i : Instr), decode w = .ok i →
    ∀ r ∈ opcodeRows, r.matches w = true ↔ r.mnemonic = i.mnemonic) ∧
  ∀ v : F32, ∀ row ∈ floatSetters v,
    (opcodeByte row.1).toNat =
      if FloatReg.number row.2.1 < 9 then 0x10 + FloatReg.number row.2.1
      else 0x20 + (FloatReg.number row.2.1 - 9)

/-- R97, R254: a preset index at or past the count gives no command; a preset of the table gives its 25
setters, the tempo first, then the eight voice setters, then the sixteen steps; none of them is a `TICK`.
That a preset's fields are the operands of the setters is read from R97 (log 17). -/
def Obligations.PresetLoadIsABurstOfSetters : Prop :=
  ∀ (presets : List Preset) (i : Nat),
    (presets.length ≤ i → loadSynthPreset presets i = []) ∧
    ∀ p, presets[i]? = some p →
      (loadSynthPreset presets i).length = 25 ∧
      (loadSynthPreset presets i)[0]? = some (.setTempo p.tempo) ∧
      (loadSynthPreset presets i)[1]? = some (.setWaveform p.voiceConfig.waveform) ∧
      (loadSynthPreset presets i)[2]? = some (.setCutoff p.voiceConfig.cutoff) ∧
      (loadSynthPreset presets i)[3]? = some (.setResonance p.voiceConfig.resonance) ∧
      (loadSynthPreset presets i)[4]? = some (.setEnvMod p.voiceConfig.envMod) ∧
      (loadSynthPreset presets i)[5]? = some (.setDecay p.voiceConfig.decay) ∧
      (loadSynthPreset presets i)[6]? = some (.setAccent p.voiceConfig.accent) ∧
      (loadSynthPreset presets i)[7]? = some (.setSlideTime p.voiceConfig.slideTime) ∧
      (loadSynthPreset presets i)[8]? = some (.setDistortion p.voiceConfig.distortion) ∧
      (∀ k : Fin 16, (loadSynthPreset presets i)[9 + k.val]? =
        some (.setSynthStep (BitVec.ofNat 8 k.val) p.steps[k].note p.steps[k].accent p.steps[k].slide
          p.steps[k].active)) ∧
      Instr.tick ∉ loadSynthPreset presets i

/-! ### What each command writes -/

/-- R20, the column "written by", with R21 and R30: a command that the table does not name for a group of
the state leaves that group as it is; no command writes the parameters or the ROM. The clauses on the port
list (log 6), on the environment's record (log 5) and on the two pulses (log 10) are about the model's own
form, which R20 does not state. -/
def Obligations.GroupsAreWrittenOnlyByTheirCommands : Prop :=
  ∀ (i : Instr) (s : State), ∃ t, exec i s = .next t ∧
    (i.mnemonic ∉ ["NOTE_ON", "NOTE_OFF", "STOP", "TICK"] → t.voice = s.voice) ∧
    (i.mnemonic ≠ "TICK" → t.voice.phase = s.voice.phase ∧ t.sampleCount = s.sampleCount ∧
      t.out = s.out ∧ t.trig = s.trig ∧ t.outValid = s.outValid) ∧
    (i.mnemonic ∉ ["START", "STOP", "TICK", "SYNTH_STEP_CHANGED", "DRUM_STEP_CHANGED"] →
      t.seq = s.seq) ∧
    (i.mnemonic ∉ ["SET_WAVEFORM", "SET_CUTOFF", "SET_RESONANCE", "SET_ENV_MOD", "SET_DECAY",
        "SET_ACCENT", "SET_SLIDE_TIME", "SET_DISTORTION", "SET_TEMPO", "SET_SYNTH_VOLUME",
        "SET_DRUM_VOLUME", "SET_KICK_VOLUME", "SET_SNARE_VOLUME", "SET_HIHAT_VOLUME"] →
      t.cr = s.cr) ∧
    (i.mnemonic ≠ "SET_SYNTH_STEP" → t.patS = s.patS) ∧
    (i.mnemonic ≠ "SET_DRUM_STEP" → t.patD = s.patD) ∧
    t.params = s.params ∧
    (i.mnemonic ∉ ["GET_SYNTH_STEP", "GET_DRUM_STEP", "SYNTH_STEP_CHANGED", "DRUM_STEP_CHANGED"] →
      t.resp = s.resp ∧ t.respValid = s.respValid) ∧
    t.port = s.port ∧ t.drumEnv = s.drumEnv ∧
    (i.mnemonic ≠ "TICK" → t.drumIn = s.drumIn ∧ t.trigHistory = s.trigHistory)

/-- R31: who sets and who clears each of the four flags; every other command leaves it. -/
def Obligations.FlagsFollowTheirTable : Prop :=
  ∀ (i : Instr) (s : State), ∃ t, exec i s = .next t ∧
    (i.mnemonic = "NOTE_ON" → t.voice.gate = true) ∧
    (i.mnemonic ∈ ["NOTE_OFF", "STOP"] → t.voice.gate = false) ∧
    (i.mnemonic ∉ ["NOTE_ON", "NOTE_OFF", "STOP"] → stepEvent i s = none →
      t.voice.gate = s.voice.gate) ∧
    (∀ k, stepEvent i s = some k →
      t.voice.gate = (s.voice.gate || (s.readSynthStep k).active)) ∧
    (i.mnemonic = "START" → t.seq.running = true) ∧
    (i.mnemonic = "STOP" → t.seq.running = false) ∧
    (i.mnemonic ∉ ["START", "STOP"] → t.seq.running = s.seq.running) ∧
    ((stepEvent i s).isSome = true →
      t.seq.synthStepChanged = true ∧ t.seq.drumStepChanged = true) ∧
    (i.mnemonic = "SYNTH_STEP_CHANGED" →
      t.seq.synthStepChanged = false ∧ t.seq.drumStepChanged = s.seq.drumStepChanged) ∧
    (i.mnemonic = "DRUM_STEP_CHANGED" →
      t.seq.drumStepChanged = false ∧ t.seq.synthStepChanged = s.seq.synthStepChanged) ∧
    (i.mnemonic ∉ ["SYNTH_STEP_CHANGED", "DRUM_STEP_CHANGED"] → stepEvent i s = none →
      t.seq.synthStepChanged = s.seq.synthStepChanged ∧
        t.seq.drumStepChanged = s.seq.drumStepChanged)

/-- R210, for all of SET_CUTOFF, SET_RESONANCE, SET_ENV_MOD, SET_DECAY, SET_ACCENT, SET_SLIDE_TIME,
SET_DISTORTION, SET_TEMPO, SET_SYNTH_VOLUME, SET_DRUM_VOLUME, SET_KICK_VOLUME, SET_SNARE_VOLUME and
SET_HIHAT_VOLUME, with the bounds of R38: a NaN leaves the register; below `lo` stores `lo` (so `-inf`),
above `hi` stores `hi` (so `+inf`), `-0.0` where `lo` is 0 stores `+0.0`, any other value is stored bit
for bit. Nothing else changes. -/
def Obligations.FloatSettersClampAndStore : Prop :=
  ∀ (v : F32) (s : State), ∀ row ∈ floatSetters v,
    exec row.1 s = .next
      { s with
        cr := writeReg s.cr row.2.1
          (if F32.isNaN v = true then readReg s.cr row.2.1
            else if F32.lt v row.2.2.1 = true then row.2.2.1
            else if F32.lt row.2.2.2 v = true then row.2.2.2
            else if v = 0x80000000#32 ∧ row.2.2.1 = 0x00000000#32 then 0x00000000#32
            else v) }

/-- R211: `SET_WAVEFORM` stores 0 (saw) or 1 (square); any other selector is ignored. -/
def Obligations.SetWaveformSelectsOrIgnores : Prop :=
  ∀ (w : BitVec 32) (s : State),
    (w.toNat = 0 → exec (.setWaveform w) s = .next { s with cr := { s.cr with waveform := .saw } }) ∧
    (w.toNat = 1 → exec (.setWaveform w) s = .next { s with cr := { s.cr with waveform := .square } }) ∧
    (2 ≤ w.toNat → exec (.setWaveform w) s = .next s)

/-- R196 with R166 and R151: `NOTE_ON` in every state and for every operand. On the glide path only the
target and the gate are written; on the retrigger path the pitch jumps, the accent is latched and the
envelope triggered. -/
def Obligations.NoteOnGlidesOrRetriggers : Prop :=
  ∀ (midi : BitVec 8) (accent slide : Bool) (s : State),
    let hz := s.params.noteHz[min midi.toNat 127]'(by omega)
    let ms :=
      if accent = true then F32.mul s.cr.decayMs s.params.tuning.accentDecayScale else s.cr.decayMs
    exec (.noteOn midi accent slide) s = .next
      (if slide = true ∧ F32.lt s.params.tuning.slideThreshold s.voice.envValue = true then
        { s with voice := { s.voice with freqTarget := hz, gate := true } }
      else
        { s with
          voice := { s.voice with
            freqCurrent := hz
            freqTarget := hz
            gate := true
            accentLevel := if accent = true then s.cr.accentAmount else 0x00000000#32
            envValue := 0x3F800000#32
            decayCoef := F32.exp Config.expSplit
              (F32.div 0xBF800000#32 (F32.div (F32.mul ms s.params.tuning.sr) 0x447A0000#32)) } })

/-- R197: `NOTE_OFF` clears the gate and changes nothing else. -/
def Obligations.NoteOffClearsTheGateOnly : Prop :=
  ∀ s : State, exec .noteOff s = .next { s with voice := { s.voice with gate := false } }

/-- R197: a stream of commands with every `NOTE_OFF` removed makes the same samples and the same
responses, shows the drum voices the same triggers (they are part of the state), and leaves the same
state but for the gate bit. -/
def Obligations.NoteOffIsUnobservable : Prop :=
  ∀ (cs : List Instr) (s : State),
    streamSamples (cs.filter fun i => decide (i ≠ .noteOff)) s = streamSamples cs s ∧
    streamResponses (cs.filter fun i => decide (i ≠ .noteOff)) s = streamResponses cs s ∧
    withoutGate (runStream (cs.filter fun i => decide (i ≠ .noteOff)) s) = withoutGate (runStream cs s)

/-- R239: what `START` writes; the step read between it and the next `TICK` is -1; the next `TICK` emits
step 0 and dispatches it (for any step length that is a number). -/
def Obligations.StartRewindsAndTheNextTickPlaysStepZero : Prop :=
  ∀ s : State,
    let sps := F32.div (F32.mul s.params.tuning.sr 0x42700000#32)
      (F32.mul s.cr.tempoBpm (F32.ofNat s.params.stepsPerBeat))
    exec .start s = .next
      { s with
        seq := { s.seq with
          running := true
          currentStep := 0x1F#5
          samplesPerStep := sps
          samplesIntoStep := sps } } ∧
    streamResponses [.start, .getSynthStep] s = [0xFFFFFFFF#32] ∧
    (F32.isNaN sps = false →
      ∃ t, exec .tick (afterCommand .start s) = .next t ∧
        t.seq =
          { running := true, currentStep := 0#5, samplesPerStep := sps, samplesIntoStep := 0#32,
            synthStepChanged := true, drumStepChanged := true } ∧
        t.trig = trigBits (s.readDrumStep 0#4) ∧
        t.voice = (renderVoice hardware s.params s.cr
          (if (s.readSynthStep 0#4).active = true then
            playNote hardware s.params s.cr (s.readSynthStep 0#4).note (s.readSynthStep 0#4).accent
              (s.readSynthStep 0#4).slide s.voice
          else s.voice)).2)

/-- R240: `STOP` clears `running` and the gate and sets the step to -1; nothing else changes, and while
already stopped it changes only the gate. -/
def Obligations.StopReleasesAndRewinds : Prop :=
  (∀ s : State, exec .stop s = .next
    { s with
      seq := { s.seq with running := false, currentStep := 0x1F#5 }
      voice := { s.voice with gate := false } }) ∧
  ∀ s : State, seqOk s.seq = true → s.seq.running = false →
    exec .stop s = .next { s with voice := { s.voice with gate := false } }

/-- R242 (R62, R63, R293): a legal index writes the one whole entry, the note clamped to 127; an index of
16 or more makes the command a no-operation. -/
def Obligations.SetSynthStepWritesOneWholeEntry : Prop :=
  ∀ (i note : BitVec 8) (accent slide active : Bool) (s : State),
    (i.toNat < 16 → ∃ t, exec (.setSynthStep i note accent slide active) s = .next t ∧
      (∀ j : BitVec 4, t.readSynthStep j =
        if j.toNat = i.toNat then ⟨BitVec.ofNat 7 (min note.toNat 127), accent, slide, active⟩
        else s.readSynthStep j) ∧
      t = { s with patS := t.patS }) ∧
    (16 ≤ i.toNat → exec (.setSynthStep i note accent slide active) s = .next s)

/-- R243 (R62, R63, R293), as for the synth pattern. -/
def Obligations.SetDrumStepWritesOneWholeEntry : Prop :=
  ∀ (i : BitVec 8) (kick snare closedHh openHh : Bool) (s : State),
    (i.toNat < 16 → ∃ t, exec (.setDrumStep i kick snare closedHh openHh) s = .next t ∧
      (∀ j : BitVec 4, t.readDrumStep j =
        if j.toNat = i.toNat then { kick := kick, snare := snare, chh := closedHh, ohh := openHh }
        else s.readDrumStep j) ∧
      t = { s with patD := t.patD }) ∧
    (16 ≤ i.toNat → exec (.setDrumStep i kick snare closedHh openHh) s = .next s)

/-- R244, R245: both reads answer the same register, sign-extended, and change no other state. In the
states R47 allows the answer is `0xFFFFFFFF` while stopped. After a `START` it is `0xFFFFFFFF` until the
next `TICK`, whatever other commands come between, and 0 to 15 from that `TICK` on, until a `STOP` or another
`START`. The pulse of `resp_valid` is R44's. -/
def Obligations.StepReadsReturnTheStep : Prop :=
  (∀ s : State,
    let word := s.seq.currentStep.signExtend 32
    exec .getSynthStep s = .next { s with resp := word, respValid := true } ∧
    exec .getDrumStep s = .next { s with resp := word, respValid := true } ∧
    word.toInt = s.seq.currentStep.toInt ∧
    (seqOk s.seq = true → s.seq.running = false → word = 0xFFFFFFFF#32) ∧
    (seqOk s.seq = true → word = 0xFFFFFFFF#32 ∨ word.toNat ≤ 15)) ∧
  ∀ (cs : List Instr) (s : State),
    let word := (runStream (.start :: cs) s).seq.currentStep.signExtend 32
    (Instr.tick ∉ cs → word = 0xFFFFFFFF#32) ∧
    (stateOk s = true → Instr.tick ∈ cs → Instr.start ∉ cs → Instr.stop ∉ cs → word.toNat ≤ 15)

/-- R246, R247, R64: each read answers its own flag as 0 or 1 and clears it, leaves the other flag, and a
second read answers 0; over any stream of commands without that read, the flag is set exactly if it was
set before or a step event happened. -/
def Obligations.ChangedReadsClearTheirOwnFlag : Prop :=
  (∀ s : State,
    exec .synthStepChanged s = .next
      { s with
        resp := if s.seq.synthStepChanged = true then 1#32 else 0#32
        respValid := true
        seq := { s.seq with synthStepChanged := false } } ∧
    exec .drumStepChanged s = .next
      { s with
        resp := if s.seq.drumStepChanged = true then 1#32 else 0#32
        respValid := true
        seq := { s.seq with drumStepChanged := false } }) ∧
  (∀ s : State,
    (streamResponses [.synthStepChanged, .synthStepChanged] s)[1]? = some 0#32 ∧
    (streamResponses [.drumStepChanged, .drumStepChanged] s)[1]? = some 0#32) ∧
  ∀ (cs : List Instr) (s : State),
    (Instr.synthStepChanged ∉ cs → (runStream cs s).seq.synthStepChanged =
      (s.seq.synthStepChanged || !(stepEvents cs s).isEmpty)) ∧
    (Instr.drumStepChanged ∉ cs → (runStream cs s).seq.drumStepChanged =
      (s.seq.drumStepChanged || !(stepEvents cs s).isEmpty))

/-! ### TICK -/

/-- R270, R272, R274: a `TICK` completes in every state, adds 1 to the sample counter (modulo 2^64),
emits a sample within `[-1, 1]` that is no NaN, and writes nothing but the voice, the sequencer, `n`,
`out` and `trig`; the environment is shown the triggers once (log 5). -/
def Obligations.TickEmitsOneBoundedSample : Prop :=
  ∀ s : State, ∃ t, exec .tick s = .next t ∧
    t.sampleCount.toNat = (s.sampleCount.toNat + 1) % 2 ^ 64 ∧
    F32.isNaN t.out = false ∧ inOutRange t.out = true ∧
    t = { s with
      voice := t.voice
      seq := t.seq
      sampleCount := t.sampleCount
      out := t.out
      trig := t.trig
      outValid := true
      drumIn := s.drumIn.tail
      trigHistory := t.trig :: s.trigHistory }

/-- R238, R233, R270: while stopped, or while the count has not reached the step's length, a `TICK` makes
no step event: it counts (if running), raises no trigger, starts no note, and renders and mixes. The last
clause is R232: the drum samples mixed are those standing at the ports, if any do (log 5). -/
def Obligations.TickWithoutStepEventOnlyCounts : Prop :=
  ∀ s : State,
    (s.seq.running = false ∨
      F32.le s.seq.samplesPerStep (F32.add s.seq.samplesIntoStep 0x3F800000#32) = false) →
    ∃ t, exec .tick s = .next t ∧
      t.seq =
        (if s.seq.running = true then
          { s.seq with samplesIntoStep := F32.add s.seq.samplesIntoStep 0x3F800000#32 }
        else s.seq) ∧
      t.trig = 0#4 ∧
      t.voice = (renderVoice hardware s.params s.cr s.voice).2 ∧
      t.out = mixOut hardware s.cr (renderVoice hardware s.params s.cr s.voice).1
        (sanitizeDrums hardware (s.drumOracle 0#4)) ∧
      ∀ (d : DrumSamples F32) (rest : List (DrumSamples F32)), s.drumIn = d :: rest →
        ∀ trig : BitVec 4, s.drumOracle trig = d

/-- R238, R248, R233, R250, R252, R270: when the count reaches the step's length, the step advances (modulo
`STEPS`, 16 by default; R5, log 8), the count restarts (from the overshoot with `SEQ_CARRY`, but not at the first
event after `START`), the length is latched from the tempo, both changed-flags are set; the triggers are the
drum entry's bits; an active synth entry plays its note in this same `TICK`, an inactive one leaves the
voice to render on. That the advance is the same `mod` for the encodings of `current_step` outside -1 to 15
is log 11. -/
def Obligations.TickWithStepEventAdvancesAndDispatches : Prop :=
  ∀ s : State, s.seq.running = true →
    F32.le s.seq.samplesPerStep (F32.add s.seq.samplesIntoStep 0x3F800000#32) = true →
    ∃ (t : State) (i : BitVec 4), exec .tick s = .next t ∧
      (i.toNat : Int) = (s.seq.currentStep.toInt + 1) % s.params.steps ∧
      t.seq =
        { running := true
          currentStep := i.setWidth 5
          samplesPerStep :=
            F32.div (F32.mul s.params.tuning.sr 0x42700000#32)
              (F32.mul s.cr.tempoBpm (F32.ofNat s.params.stepsPerBeat))
          samplesIntoStep :=
            if s.params.seqCarry = true ∧ s.seq.currentStep.toInt ≠ -1 then
              F32.sub (F32.add s.seq.samplesIntoStep 0x3F800000#32) s.seq.samplesPerStep
            else 0#32
          synthStepChanged := true
          drumStepChanged := true } ∧
      t.trig.getLsbD 0 = (s.readDrumStep i).kick ∧ t.trig.getLsbD 1 = (s.readDrumStep i).snare ∧
      t.trig.getLsbD 2 = (s.readDrumStep i).chh ∧ t.trig.getLsbD 3 = (s.readDrumStep i).ohh ∧
      ∃ v, v = (if (s.readSynthStep i).active = true then
          (afterCommand (.noteOn ((s.readSynthStep i).note.setWidth 8) (s.readSynthStep i).accent
            (s.readSynthStep i).slide) s).voice
        else s.voice) ∧
        t.voice = (renderVoice hardware s.params s.cr v).2 ∧
        t.out = mixOut hardware s.cr (renderVoice hardware s.params s.cr v).1
          (sanitizeDrums hardware (s.drumOracle t.trig))

/-- R198, R199, in every number system (R7): the six steps of the render in their order, the VCA written
out, and the registers the render writes. The machine's is the one in binary32. -/
def Obligations.RenderFollowsTheSixSteps : Prop :=
  ∀ (α : Type) (N : NumSys α) (p : Params α) (c : ConfigRegs α) (v : VoiceRegs α),
    let freq := slideStep N p.tuning c.slideTimeMs v.freqCurrent v.freqTarget
    let osc := oscStep N p.tuning p.sqSign c.waveform v.phase freq
    let e := envelopeStep N p.tuning v.envValue v.decayCoef
    let y := filterStepWith N p.tuning (buildFbScale N p)
      ⟨c.cutoffHz, c.resonance, c.envMod, v.accentLevel⟩ osc.2 e ⟨v.y1, v.y2, v.y3⟩
    let vca := N.mul (N.mul y.y3 e) (N.add N.one (N.mul v.accentLevel p.tuning.accentLoudness))
    renderVoice N p c v =
      (distort N c.distortion vca,
        { v with
          freqCurrent := freq, phase := osc.1, envValue := e, y1 := y.y1, y2 := y.y2, y3 := y.y3 })

/-- R112, R116, R120, R139, R170, R153, R189, R271 to R273 in binary32, each operation of R8 written out in
the order the rule writes it. VCF is written for any scale law, and the default law with it (R134). The last
two clauses are MIX: the sum, and the sample of a `TICK` from the voice and the three drum answers,
sanitised, summed and limited. -/
def Obligations.UnitFormulasInBinary32 : Prop :=
  (∀ (t : Tuning F32) (sign : SqSign) (w : Waveform) (phase f : F32),
    let blep := fun t dt : F32 =>
      if F32.lt t dt = true then
        F32.sub (F32.sub (F32.mul 0x40000000#32 (F32.div t dt)) (F32.mul (F32.div t dt) (F32.div t dt)))
          0x3F800000#32
      else if F32.lt (F32.sub 0x3F800000#32 dt) t = true then
        F32.add
          (F32.add
            (F32.mul (F32.div (F32.sub t 0x3F800000#32) dt) (F32.div (F32.sub t 0x3F800000#32) dt))
            (F32.mul 0x40000000#32 (F32.div (F32.sub t 0x3F800000#32) dt)))
          0x3F800000#32
      else 0x00000000#32
    let dt := F32.div f t.sr
    let p := F32.sub (F32.add phase dt) (F32.floor (F32.add phase dt))
    let raw := if F32.lt p 0x3F000000#32 = true then 0x3F800000#32 else 0xBF800000#32
    let p2 :=
      if F32.le 0x3F800000#32 (F32.add p 0x3F000000#32) = true then
        F32.sub (F32.add p 0x3F000000#32) 0x3F800000#32
      else F32.add p 0x3F000000#32
    oscStep hardware t sign w phase f =
      (p, match w, sign with
        | .saw, _ => F32.sub (F32.sub (F32.mul 0x40000000#32 p) 0x3F800000#32) (blep p dt)
        | .square, .corrected => F32.sub (F32.add raw (blep p dt)) (blep p2 dt)
        | .square, .literal => F32.add (F32.sub raw (blep p dt)) (blep p2 dt))) ∧
  (∀ (t : Tuning F32) (law : F32 → F32 → F32) (k : FilterControls F32) (input e : F32)
      (y : FilterStages F32),
    let em := F32.mul k.envMod (F32.add 0x3F800000#32 (F32.mul k.accentLevel t.accentEnvBoost))
    let swept := F32.add k.cutoffHz (F32.mul (F32.mul em e) t.cutoffSweepHz)
    let above := if F32.lt 0x41A00000#32 swept = true then swept else 0x41A00000#32
    let bound := F32.mul (F32.div t.sr 0x40000000#32) 0x3EE66666#32
    let c := if F32.lt above bound = true then above else bound
    let g := F32.sub 0x3F800000#32
      (F32.exp Config.expSplit (F32.div (F32.mul 0xC0C90FDB#32 c) t.sr))
    let fb := F32.mul k.resonance (law k.resonance c)
    let x := F32.sub input (F32.mul fb (F32.tanh Config.tanhSplit y.y3))
    let y1 := F32.add y.y1 (F32.mul g (F32.sub x y.y1))
    let y2 := F32.add y.y2 (F32.mul g (F32.sub y1 y.y2))
    let y3 := F32.add y.y3 (F32.mul g (F32.sub y2 y.y3))
    filterStepWith hardware t law k input e y =
      if F32.isFinite y1 = true ∧ F32.isFinite y2 = true ∧ F32.isFinite y3 = true then ⟨y1, y2, y3⟩
      else ⟨0x00000000#32, 0x00000000#32, 0x00000000#32⟩) ∧
  (∀ (p : Params F32) (sr resonance c : F32), p.fbLaw = none → p.tuning = defaultTuning sr →
    buildFbScale hardware p resonance c = F32.add 0x3F800000#32 (F32.mul 0x40400000#32 resonance)) ∧
  (∀ (t : Tuning F32) (ms cur tgt : F32),
    let k := F32.sub 0x3F800000#32
      (F32.exp Config.expSplit (F32.div 0xBF800000#32 (F32.div (F32.mul ms t.sr) 0x447A0000#32)))
    let f := F32.add cur (F32.mul (F32.sub tgt cur) k)
    slideStep hardware t ms cur tgt =
      if F32.lt (F32.abs (F32.sub tgt f)) t.snapHz = true then tgt else f) ∧
  (∀ (t : Tuning F32) (e d : F32),
    let v := if F32.lt (F32.mul e d) t.envFloor = true then 0x00000000#32 else F32.mul e d
    envelopeStep hardware t e d = if F32.isFinite v = true then v else 0x00000000#32) ∧
  (∀ d x : F32,
    let drive := F32.add 0x3F800000#32 (F32.mul d 0x41100000#32)
    let y := F32.div (F32.tanh Config.tanhSplit (F32.mul drive x)) (F32.tanh Config.tanhSplit drive)
    distort hardware d x = F32.add (F32.mul x (F32.sub 0x3F800000#32 d)) (F32.mul y d)) ∧
  (∀ (c : ConfigRegs F32) (v k sn hh : F32),
    let s0 := F32.mul v c.synthGain
    let s1 := F32.add s0 (F32.mul (F32.mul k c.kickGain) c.drumMasterGain)
    let s2 := F32.add s1 (F32.mul (F32.mul sn c.snareGain) c.drumMasterGain)
    mixSum hardware (gains c) v k sn hh =
      F32.add s2 (F32.mul (F32.mul hh c.hihatGain) c.drumMasterGain)) ∧
  ∀ (c : ConfigRegs F32) (v : F32) (d : DrumSamples F32),
    let k := if F32.isFinite d.kick = true then d.kick else 0x00000000#32
    let sn := if F32.isFinite d.snare = true then d.snare else 0x00000000#32
    let hh := if F32.isFinite d.hihat = true then d.hihat else 0x00000000#32
    let s := mixSum hardware (gains c) v k sn hh
    mixOut hardware c v (sanitizeDrums hardware d) =
      if F32.isNaN s = true then 0x00000000#32
      else if F32.lt s 0xBF800000#32 = true then 0xBF800000#32
      else if F32.lt 0x3F800000#32 s = true then 0x3F800000#32
      else s

/-- R272: the limiter on every operand: a NaN gives `+0.0`, anything else (an infinity too) is clipped to
`[-1, 1]`; the result is in range and no NaN. -/
def Obligations.LimiterClipsHard : Prop :=
  ∀ x : F32,
    mixLimit hardware x =
      (if F32.isNaN x = true then 0x00000000#32
        else if F32.lt x 0xBF800000#32 = true then 0xBF800000#32
        else if F32.lt 0x3F800000#32 x = true then 0x3F800000#32
        else x) ∧
    inOutRange (mixLimit hardware x) = true

/-- R273: a drum sample that is an infinity or a NaN counts as `+0.0`: the `TICK` is the one it would be
with each such sample replaced. -/
def Obligations.DrumSamplesAreSanitised : Prop :=
  ∀ (s : State) (d : DrumSamples F32) (rest : List (DrumSamples F32)),
    exec .tick { s with drumIn := d :: rest } =
      exec .tick { s with drumIn :=
        { kick := if F32.isFinite d.kick = true then d.kick else 0x00000000#32
          snare := if F32.isFinite d.snare = true then d.snare else 0x00000000#32
          hihat := if F32.isFinite d.hihat = true then d.hihat else 0x00000000#32 } :: rest }

/-- R281 (d): with the synth gain and the drum master gain at zero, the sample is a zero whatever the
voice and the drums do, in every state. -/
def Obligations.ZeroGainsSilenceTheOutput : Prop :=
  ∀ s : State, isZero s.cr.synthGain = true → isZero s.cr.drumMasterGain = true →
    ∃ t, exec .tick s = .next t ∧ isZero t.out = true

/-- R281 (a), R322: from a legal state that is stopped with the envelope at zero (such as reset), any
stream of commands without `NOTE_ON` and `START`, with idle drum voices (DRUM-IDLE, R232), makes only
zero samples. -/
def Obligations.IdleVoiceIsSilent : Prop :=
  ∀ (cs : List Instr) (s : State) (n : Nat) (rest : List (DrumSamples F32)),
    stateOk s = true → s.seq.running = false → isZero s.voice.envValue = true →
    s.drumIn = List.replicate n ⟨0#32, 0#32, 0#32⟩ ++ rest → cs.count .tick ≤ n →
    (∀ i ∈ cs, i.mnemonic ≠ "NOTE_ON" ∧ i.mnemonic ≠ "START") →
    ∀ x ∈ streamSamples cs s, isZero x = true

/-- R27, R137, R155, R294: after every `TICK`, from whatever state, the three filter stages and the
envelope are finite. -/
def Obligations.TickLeavesFilterAndEnvelopeFinite : Prop :=
  ∀ s : State, ∃ t, exec .tick s = .next t ∧
    F32.isFinite t.voice.y1 = true ∧ F32.isFinite t.voice.y2 = true ∧ F32.isFinite t.voice.y3 = true ∧
    F32.isFinite t.voice.envValue = true

/-! ### Invariants -/

/-- R47 holds at reset. -/
def Obligations.StateInvariantAtReset : Prop := stateOk State.reset = true

/-- R47 is kept by every step, from every state it holds in. (`stateOk` asks for the default constants of
R5, for which the spec derives the bounds; the sample rate, `SQ_SIGN`, `SEQ_CARRY`, `STEPS`,
`STEPS_PER_BEAT` and a legal `RESET_CFG` are free.) -/
def Obligations.StateInvariantKeptByEveryStep : Prop :=
  ∀ s t : State, stateOk s = true → step s = .next t → stateOk t = true

/-- R37, R38, R47: every configuration register stays within its legal values, whatever the rest of the
state is. -/
def Obligations.ConfigurationStaysLegal : Prop :=
  ∀ s t : State, configOk s.cr = true → configOk s.params.resetCfg = true → step s = .next t →
    configOk t.cr = true ∧ configOk t.params.resetCfg = true

/-- R33, R32, R47: the step stays in -1 to 15, and is -1 while stopped, whatever the rest of the state
is. -/
def Obligations.SequencerStaysLegal : Prop :=
  ∀ s t : State, seqOk s.seq = true → step s = .next t → seqOk t.seq = true

/-! ### The units in binary32 -/

/-- R157 (a), (b): the envelope step never raises the level and keeps it in `[0, 1]`; so a `TICK` that
triggers no envelope does not raise it and does not touch the latched values: one without a step event, or
one whose step is inactive or glides (R248, R166). -/
def Obligations.EnvelopeFallsBetweenTriggers : Prop :=
  (∀ (t : Tuning F32) (v c : F32), inUnit v = true → inUnit c = true →
    F32.le (envelopeStep hardware t v c) v = true ∧ inUnit (envelopeStep hardware t v c) = true) ∧
  ∀ s : State, inUnit s.voice.envValue = true → inUnit s.voice.decayCoef = true →
    (∀ k, stepEvent .tick s = some k → (s.readSynthStep k).active = false ∨
      ((s.readSynthStep k).slide = true ∧
        F32.lt s.params.tuning.slideThreshold s.voice.envValue = true)) →
    ∃ t, exec .tick s = .next t ∧ F32.le t.voice.envValue s.voice.envValue = true ∧
      inUnit t.voice.envValue = true ∧
      t.voice.decayCoef = s.voice.decayCoef ∧ t.voice.accentLevel = s.voice.accentLevel

/-- R111, R21: the advanced phase stays in `[0, 1)` for every finite frequency that is not negative and
every admitted sample rate. -/
def Obligations.PhaseStaysInTheUnitInterval : Prop :=
  ∀ phase f sr : F32, phaseOk phase = true → F32.isFinite f = true → F32.le 0x00000000#32 f = true →
    sampleRateAdmitted sr = true →
    phaseOk (advancePhase hardware phase (phaseIncrement hardware sr f)) = true

/-- R167: `0 < k < 0.0125` for every admitted sample rate and every legal slide time. -/
def Obligations.GlideCoefficientIsSmall : Prop :=
  ∀ sr ms : F32, sampleRateAdmitted sr = true → F32.le 0x41200000#32 ms = true →
    F32.le ms 0x43480000#32 = true →
    let k := glideCoef hardware (defaultTuning sr) ms
    F32.isFinite k = true ∧ 0 < F32.toReal k ∧ F32.toReal k < 125 / 10000

/-- R173 (b): a glide step moves the frequency towards its target and not past it. -/
def Obligations.GlideStaysBetweenItsEnds : Prop :=
  ∀ sr ms cur tgt : F32, sampleRateAdmitted sr = true → F32.le 0x41200000#32 ms = true →
    F32.le ms 0x43480000#32 = true → inNoteRange cur = true → inNoteRange tgt = true →
    let f := slideStep hardware (defaultTuning sr) ms cur tgt
    (F32.le cur tgt = true → F32.le cur f = true ∧ F32.le f tgt = true) ∧
    (F32.le tgt cur = true → F32.le tgt f = true ∧ F32.le f cur = true)

/-- R132: for every admitted sample rate the modulated cutoff is finite and between 20 and the bound,
whatever the operands; the bound is 9922.5 at 44100 and never below 20. -/
def Obligations.CutoffStaysWithinItsBounds : Prop :=
  (∀ sr cutoff em e : F32, sampleRateAdmitted sr = true →
    let c := modulatedCutoff hardware (defaultTuning sr) cutoff em e
    F32.isFinite c = true ∧ F32.le 0x41A00000#32 c = true ∧
      F32.le c (cutoffBound hardware (defaultTuning sr)) = true) ∧
  cutoffBound hardware (defaultTuning 0x472C4400#32) = 0x461B0A00#32

/-- R190 (a), (c), R187: DST in binary32. It is odd; at `d = 0` it returns its operand; the shaped signal
of `x = 1` is 1 and of `x = -1` is -1, exactly (the DST of them is exact only at the `d` that R190 (d)
names). (`d` is not `-0.0`: no setter stores it, R210.) -/
def Obligations.DistortionInBinary32 : Prop :=
  (∀ d x : F32, inUnit d = true → F32.sign d = false → F32.isFinite x = true →
    distort hardware d (F32.neg x) = F32.neg (distort hardware d x)) ∧
  (∀ x : F32, F32.isFinite x = true → distort hardware 0x00000000#32 x = x) ∧
  ∀ d : F32, inUnit d = true →
    shaped hardware d 0x3F800000#32 = 0x3F800000#32 ∧ shaped hardware d 0xBF800000#32 = 0xBF800000#32

/-- R8: the four operations on finite operands are the exact real results rounded once to nearest, ties
to even. -/
def Obligations.ArithmeticRoundsToNearestEven : Prop :=
  ∀ a b : F32, F32.isFinite a = true → F32.isFinite b = true →
    F32.RoundsTo (F32.add a b) (F32.toReal a + F32.toReal b) ∧
    F32.RoundsTo (F32.sub a b) (F32.toReal a - F32.toReal b) ∧
    F32.RoundsTo (F32.mul a b) (F32.toReal a * F32.toReal b) ∧
    (F32.toReal b ≠ 0 → F32.RoundsTo (F32.div a b) (F32.toReal a / F32.toReal b))

/-- R9, EXP-ZERO and EXP-RANGE, for every choice within the brackets (log 2). -/
def Obligations.ExpIsOneAtZeroAndInRange : Prop :=
  ∀ split : F32 → Split,
    F32.exp split 0x00000000#32 = 0x3F800000#32 ∧ F32.exp split 0x80000000#32 = 0x3F800000#32 ∧
    ∀ v : F32, F32.isFinite v = true → F32.le v 0x00000000#32 = true →
      F32.le 0x00000000#32 (F32.exp split v) = true ∧ F32.le (F32.exp split v) 0x3F800000#32 = true

/-- R9, EXP-FAITHFUL and EXP-MONO, for every choice (log 2): for every finite `v < 0` EXP answers one of
two neighbouring binary32 values (magnitude bits `m` and `m + 1`) between which the real `e^v` lies; and
`u <= v` gives `EXP(u) <= EXP(v)`. The third clause bounds the width of the bracket the model computes. -/
def Obligations.ExpIsFaithfulAndMonotone : Prop :=
  (∀ (split : F32 → Split) (v : F32), F32.isFinite v = true → F32.lt v 0x00000000#32 = true →
    ∃ m : Nat, m + 1 ≤ F32.oneMag ∧
      F32.toReal (F32.pack false m) ≤ Real.exp (F32.toReal v) ∧
      Real.exp (F32.toReal v) ≤ F32.toReal (F32.pack false (m + 1)) ∧
      (F32.exp split v = F32.pack false m ∨ F32.exp split v = F32.pack false (m + 1))) ∧
  (∀ (split : F32 → Split) (u v : F32), F32.isFinite u = true → F32.isFinite v = true →
    F32.le u v = true → F32.le v 0x00000000#32 = true →
      F32.le (F32.exp split u) (F32.exp split v) = true) ∧
  ∀ v : F32, F32.isFinite v = true → F32.lt v 0x00000000#32 = true →
    F32.expLo (F32.scaled (F32.mag v)) ≤ F32.expHi (F32.scaled (F32.mag v)) ∧
    F32.expHi (F32.scaled (F32.mag v)) ≤ F32.expLo (F32.scaled (F32.mag v)) + 2

/-- R10, TANH-ZERO, TANH-ODD, TANH-RANGE and TANH-NAN, for every choice within the brackets (log 2). -/
def Obligations.TanhIsOddAndInRange : Prop :=
  ∀ split : F32 → Split,
    F32.tanh split 0x00000000#32 = 0x00000000#32 ∧ F32.tanh split 0x80000000#32 = 0x80000000#32 ∧
    F32.tanh split 0x7F800000#32 = 0x3F800000#32 ∧ F32.tanh split 0xFF800000#32 = 0xBF800000#32 ∧
    ∀ v : F32,
      (F32.isNaN v = true → F32.isNaN (F32.tanh split v) = true) ∧
      (F32.isNaN v = false →
        F32.tanh split (F32.neg v) = F32.neg (F32.tanh split v) ∧
        F32.le 0xBF800000#32 (F32.tanh split v) = true ∧
        F32.le (F32.tanh split v) 0x3F800000#32 = true)

/-- R10, TANH-FAITHFUL and TANH-MONO, for every choice (log 2): for every finite `v > 0` TANH answers one
of two neighbouring binary32 values between which the real `tanh v` lies (TANH-ODD gives the other sign);
and `u <= v` gives `TANH(u) <= TANH(v)`, infinities too. The third clause bounds the width of the bracket
the model computes. -/
def Obligations.TanhIsFaithfulAndMonotone : Prop :=
  (∀ (split : F32 → Split) (v : F32), F32.isFinite v = true → F32.lt 0x00000000#32 v = true →
    ∃ m : Nat, m + 1 ≤ F32.oneMag ∧
      F32.toReal (F32.pack false m) ≤ Real.tanh (F32.toReal v) ∧
      Real.tanh (F32.toReal v) ≤ F32.toReal (F32.pack false (m + 1)) ∧
      (F32.tanh split v = F32.pack false m ∨ F32.tanh split v = F32.pack false (m + 1))) ∧
  (∀ (split : F32 → Split) (u v : F32), F32.le u v = true →
    F32.le (F32.tanh split u) (F32.tanh split v) = true) ∧
  ∀ v : F32, F32.isFinite v = true → F32.lt 0x00000000#32 v = true →
    F32.tanhLo (F32.scaled (F32.mag v)) ≤ F32.tanhHi (F32.scaled (F32.mag v)) ∧
    F32.tanhHi (F32.scaled (F32.mag v)) ≤ F32.tanhLo (F32.scaled (F32.mag v)) + 2

/-- R171, R172: each ROM word is the binary32 value nearest to `440 * 2^((m - 69)/12)`; note 69 is 440
Hz; twelve notes up is twice the frequency, exactly; `NOTE_ON` reads the ROM. -/
def Obligations.NoteTableIsNearestToTheFormula : Prop :=
  (∀ (m : Fin 128) (x : F32), F32.isFinite x = true →
    |F32.toReal noteHzTable[m] - 440 * (2 : ℝ) ^ (((m.val : ℝ) - 69) / 12)| ≤
      |F32.toReal x - 440 * (2 : ℝ) ^ (((m.val : ℝ) - 69) / 12)|) ∧
  noteHzTable[69] = 0x43DC0000#32 ∧
  (∀ m : Fin 116, F32.mul 0x40000000#32 noteHzTable[m.val] = noteHzTable[m.val + 12]) ∧
  ∀ (midi : BitVec 8) (accent : Bool),
    (afterCommand (.noteOn midi accent false) State.reset).voice.freqCurrent =
      noteHzTable[min midi.toNat 127]'(by omega)

/-! ### The step clock -/

/-- R237: the step length, its bounds for every admitted sample rate and legal tempo, that `SR * 60` is
exact for an integer `SR`, and the lengths the rule lists at 44100. `STEPS_PER_BEAT` is 4 but in the first
clause, which gives the formula for any (R5). -/
def Obligations.StepLengthLiesBetween600And48000 : Prop :=
  (∀ (n : Nat) (sr tempo : F32), stepLength hardware n sr tempo =
    F32.div (F32.mul sr 0x42700000#32) (F32.mul tempo (F32.ofNat n))) ∧
  F32.ofNat 4 = 0x40800000#32 ∧
  (∀ sr tempo : F32, sampleRateAdmitted sr = true → F32.le 0x42700000#32 tempo = true →
    F32.le tempo 0x43480000#32 = true →
    F32.isFinite (stepLength hardware 4 sr tempo) = true ∧
    600 ≤ F32.toReal (stepLength hardware 4 sr tempo) ∧
    F32.toReal (stepLength hardware 4 sr tempo) ≤ 48000) ∧
  (∀ k : Nat, k ≤ 192000 → F32.toReal (F32.mul (F32.ofNat k) 0x42700000#32) = (k : ℝ) * 60) ∧
  stepLength hardware 4 0x472C4400#32 0x42700000#32 = 0x462C4400#32 ∧
  stepLength hardware 4 0x472C4400#32 0x42F00000#32 = 0x45AC4400#32 ∧
  stepLength hardware 4 0x472C4400#32 0x42FA0000#32 = 0x45A56000#32 ∧
  stepLength hardware 4 0x472C4400#32 0x43050000#32 = 0x459B6D79#32 ∧
  stepLength hardware 4 0x472C4400#32 0x43480000#32 = 0x454EB800#32

/-- R251 (without `SEQ_CARRY`): after `START`, with a constant legal tempo, step `k` (modulo `STEPS`, log 8) is
emitted in `TICK` `k * L` and in no other, `L` being the least whole number not below the step length:
`n` `TICK`s make the `ceil(n / L)` events of that series. At 120 BPM and 44100 Hz `L` is 5513. -/
def Obligations.StepsFallOnMultiplesOfTheirLength : Prop :=
  (∀ (s : State) (n : Nat), sampleRateAdmitted s.params.tuning.sr = true →
    F32.le 0x42700000#32 s.cr.tempoBpm = true → F32.le s.cr.tempoBpm 0x43480000#32 = true →
    s.params.seqCarry = false → s.params.stepsPerBeat = 4 →
    let len := ⌈F32.toReal (stepLength hardware 4 s.params.tuning.sr s.cr.tempoBpm)⌉₊
    stepEvents (processBuffer n) (afterCommand .start s) =
      (List.range ((n + len - 1) / len)).map fun k => BitVec.ofNat 4 (k % s.params.steps)) ∧
  ⌈F32.toReal (stepLength hardware 4 0x472C4400#32 0x42F00000#32)⌉₊ = 5513

/-! ### Commands among themselves -/

/-- R249: a write of a pattern entry that this `TICK` does not dispatch commutes with the `TICK`: it
changes no register, no sample and no trigger of it. -/
def Obligations.StepWritesAreIsolated : Prop :=
  ∀ (i : BitVec 8) (s : State), (∀ k, stepEvent .tick s = some k → k.toNat ≠ i.toNat) →
    (∀ (note : BitVec 8) (accent slide active : Bool),
      afterCommand .tick (afterCommand (.setSynthStep i note accent slide active) s) =
        afterCommand (.setSynthStep i note accent slide active) (afterCommand .tick s)) ∧
    ∀ kick snare closedHh openHh : Bool,
      afterCommand .tick (afterCommand (.setDrumStep i kick snare closedHh openHh) s) =
        afterCommand (.setDrumStep i kick snare closedHh openHh) (afterCommand .tick s)

/-- R39, R250, R152, R200: the tempo, the decay time and the accent amount are latched. In a `TICK`
without a step event, a write of any of the three commutes with the `TICK`: the step in progress keeps
its length, the note in flight its decay and its accent. -/
def Obligations.LatchedSettersLeaveTheNoteInFlight : Prop :=
  ∀ (v : F32) (s : State), stepEvent .tick s = none →
    ∀ i ∈ [Instr.setTempo v, Instr.setDecay v, Instr.setAccent v],
      afterCommand .tick (afterCommand i s) = afterCommand i (afterCommand .tick s)

/-- R329 (R232, DRUM-PURE): the outputs of a stream are a function of the hardware's state, the commands
and the drum answers: what the model's free drum answers depend on does not matter while the answers are
given. -/
def Obligations.OutputsAreDeterministic : Prop :=
  ∀ (cs : List Instr) (s : State) (environment : Nat) (history : List (BitVec 4)),
    cs.count .tick ≤ s.drumIn.length →
    streamOutputs cs { s with drumEnv := environment, trigHistory := history } = streamOutputs cs s

/-- R280, R97: `PROCESS n` makes exactly `n` samples, and `PROCESS a` then `PROCESS b` is
`PROCESS (a + b)`, in the samples and in the state. -/
def Obligations.BuffersConcatenate : Prop :=
  ∀ (a b : Nat) (s : State),
    (streamSamples (processBuffer a) s).length = a ∧
    streamSamples (processBuffer (a + b)) s =
      streamSamples (processBuffer a) s ++ streamSamples (processBuffer b) (runStream (processBuffer a) s) ∧
    runStream (processBuffer (a + b)) s = runStream (processBuffer b) (runStream (processBuffer a) s)

/-! ### The rules read over the reals (log 15) -/

/-- R113: the correction over the reals. -/
def Obligations.PolyBlepOverTheReals : Prop :=
  ∀ t dt : ℝ, 0 ≤ t → t < 1 → 0 ≤ dt →
    -1 ≤ polyBlep realNum t dt ∧ polyBlep realNum t dt ≤ 1 ∧
    (dt ≤ t → t ≤ 1 - dt → polyBlep realNum t dt = 0) ∧
    (t < dt → polyBlep realNum t dt = -(1 - t / dt) ^ 2) ∧
    (dt ≤ t → 1 - dt < t → polyBlep realNum t dt = (1 + (t - 1) / dt) ^ 2) ∧
    (dt = 0 → polyBlep realNum t dt = 0) ∧
    (0 < dt → polyBlep realNum 0 dt = -1) ∧
    (∀ u, t ≤ u → u < dt → polyBlep realNum t dt ≤ polyBlep realNum u dt) ∧
    ∀ u, dt ≤ t → 1 - dt < t → t ≤ u → u < 1 → polyBlep realNum t dt ≤ polyBlep realNum u dt

/-- R119: the ranges of the two waveforms over the reals; with the literal signs the square reaches ±2 at
its edge. -/
def Obligations.OscillatorRangeOverTheReals : Prop :=
  ∀ p dt : ℝ, 0 ≤ p → p < 1 → 0 ≤ dt →
    (dt ≤ 1 / 2 → |sawSample realNum p dt| ≤ 1) ∧
    (dt ≤ 1 / 4 → |squareSample realNum .corrected p dt| ≤ 1) ∧
    |sawSample realNum p dt| ≤ 2 ∧ |squareSample realNum .corrected p dt| ≤ 3 ∧
    (0 < dt → dt ≤ 1 / 4 → squareSample realNum .literal 0 dt = 2 ∧
      squareSample realNum .literal (1 / 2) dt = -2)

/-- R140: over the reals, from zeroed stages and with an oscillator bounded by `b`, every stage stays
within `b + 4` after any run of filter steps, for every scale law with values in `[0, 4]`
(90_conflicts.md C4), and the default law is one. -/
def Obligations.FilterIsBoundedOverTheReals : Prop :=
  (∀ (t : Tuning ℝ) (law : ℝ → ℝ → ℝ) (b : ℝ) (run : List (FilterControls ℝ × ℝ × ℝ)),
    8000 ≤ t.sr → 0 ≤ b →
    (∀ r c, 0 ≤ r → r ≤ 1 → 0 ≤ law r c ∧ law r c ≤ 4) →
    (∀ x ∈ run, 0 ≤ x.1.resonance ∧ x.1.resonance ≤ 1 ∧ |x.2.1| ≤ b) →
    let y := run.foldl (fun y x => filterStepWith realNum t law x.1 x.2.1 x.2.2 y) ⟨0, 0, 0⟩
    |y.y1| ≤ b + 4 ∧ |y.y2| ≤ b + 4 ∧ |y.y3| ≤ b + 4) ∧
  ∀ (t : Tuning ℝ) (r c : ℝ), t.fbScaleBase = 1 → t.fbScaleSlope = 3 → 0 ≤ r → r ≤ 1 →
    0 ≤ fbScale realNum t r c ∧ fbScale realNum t r c ≤ 4

/-- R173 (a): over the reals, `j` steps of the glide leave the distance times `(1 - k)^j`. R157 (d): over
the reals, `k` renders after a note that triggers the envelope its level is `exp(-k / decay_samples)`, as
long as that is not below the floor. -/
def Obligations.GlideAndEnvelopeAreExponentialOverTheReals : Prop :=
  (∀ (k start target : ℝ) (j : Nat),
    target - (fun f => approach realNum k f target)^[j] start = (target - start) * (1 - k) ^ j) ∧
  ∀ (p : Params ℝ) (c : ConfigRegs ℝ) (v : VoiceRegs ℝ) (m : BitVec 7) (accent : Bool) (k : Nat),
    let ms := if accent = true then c.decayMs * p.tuning.accentDecayScale else c.decayMs
    let decaySamples := ms * p.tuning.sr / 1000
    0 < decaySamples → p.tuning.envFloor ≤ Real.exp (-(k : ℝ) / decaySamples) →
    ((fun v => (renderVoice realNum p c v).2)^[k]
      (playNote realNum p c m accent false v)).envValue = Real.exp (-(k : ℝ) / decaySamples)

/-- R190 (b), (d), (e), (f): DST over the reals, for `d` in `[0, 1]`. -/
def Obligations.DistortionOverTheReals : Prop :=
  ∀ d x : ℝ, 0 ≤ d → d ≤ 1 →
    (|x| ≤ 1 → |distort realNum d x| ≤ 1) ∧
    (1 < |x| → |distort realNum d x| < |x| * (1 - d) + 1.3130353 * d ∨ d = 0) ∧
    distort realNum d 1 = 1 ∧ distort realNum d (-1) = -1 ∧
    (d = 1 → distort realNum d x = Real.tanh (10 * x) / Real.tanh 10) ∧
    ∀ x', x ≤ x' → distort realNum d x ≤ distort realNum d x'
end

