-- ==== Sys2Proof/Laws/F32.lean ====
section
/-! SUPPORT. binary32: the parts of a value, the order of values, and the two facts about rounding that
every bound rests on: it is exact on representable values and it is monotone. -/

namespace Sys2Proof

/-! ### Parts -/

theorem F32.mag_lt (x : F32) : F32.mag x < 2 ^ 31 := Nat.mod_lt _ (by norm_num)

theorem F32.sign_eq (x : F32) : F32.sign x = decide (2 ^ 31 ≤ x.toNat) := by
  simp [F32.sign, BitVec.msb_eq_decide]

theorem F32.toNat_eq (x : F32) : x.toNat = (if F32.sign x then 2 ^ 31 else 0) + F32.mag x := by
  have hx := x.isLt
  rw [F32.sign_eq]
  unfold F32.mag
  by_cases h : 2 ^ 31 ≤ x.toNat
  · rw [if_pos (decide_eq_true h)]
    omega
  · rw [if_neg (by simpa using h)]
    omega

theorem F32.toNat_pack (s : Bool) {m : Nat} (h : m < 2 ^ 31) :
    (F32.pack s m).toNat = (if s then 2 ^ 31 else 0) + m := by
  unfold F32.pack
  rw [BitVec.toNat_ofNat, Nat.mod_eq_of_lt]
  cases s
  · rw [if_neg (by decide)]
    omega
  · rw [if_pos rfl]
    omega

@[simp] theorem F32.sign_pack (s : Bool) {m : Nat} (h : m < 2 ^ 31) : F32.sign (F32.pack s m) = s := by
  rw [F32.sign_eq, F32.toNat_pack s h]
  cases s
  · rw [if_neg (by decide)]
    exact decide_eq_false (by omega)
  · rw [if_pos rfl]
    exact decide_eq_true (by omega)

@[simp] theorem F32.mag_pack (s : Bool) {m : Nat} (h : m < 2 ^ 31) : F32.mag (F32.pack s m) = m := by
  unfold F32.mag
  rw [F32.toNat_pack s h]
  cases s
  · rw [if_neg (by decide)]
    omega
  · rw [if_pos rfl]
    omega

/-- A value is its sign and its magnitude bits. -/
theorem F32.pack_sign_mag (x : F32) : F32.pack (F32.sign x) (F32.mag x) = x := by
  apply BitVec.eq_of_toNat_eq
  rw [F32.toNat_pack _ (F32.mag_lt x), ← F32.toNat_eq]

theorem F32.isFinite_iff (x : F32) : F32.isFinite x = true ↔ F32.mag x < F32.infMag := by
  simp [F32.isFinite]

theorem F32.isNaN_iff (x : F32) : F32.isNaN x = true ↔ F32.infMag < F32.mag x := by
  simp [F32.isNaN]

theorem F32.isInf_iff (x : F32) : F32.isInf x = true ↔ F32.mag x = F32.infMag := by
  simp [F32.isInf]

theorem F32.not_isNaN_of_isFinite {x : F32} (h : F32.isFinite x = true) : F32.isNaN x = false := by
  rw [F32.isFinite_iff] at h
  simp [F32.isNaN]
  omega

/-- The free NaN is a NaN, whatever is free. -/
theorem F32.isNaN_nan (op : Nat) (a b : F32) : F32.isNaN (F32.nan op a b) = true := by
  rw [F32.isNaN_iff]
  unfold F32.nan F32.mag F32.infMag
  generalize Config.nanBits op a b &&& 0x803FFFFF#32 = z
  have h : (0x7FC00000#32 ||| z).toNat = 0x7FC00000 ||| z.toNat := by simp
  rw [h]
  have h1 : (0x7FC00000 ||| z.toNat) % 2 ^ 31 = 0x7FC00000 ||| z.toNat % 2 ^ 31 := by
    rw [Nat.or_mod_two_pow]
  rw [h1]
  have := @Nat.left_le_or 0x7FC00000 (z.toNat % 2 ^ 31)
  omega

/-- All a subtraction can do: a NaN of its own, where the operands have no difference, or the sum with the
sign of `b` flipped. -/
theorem F32.sub_cases (a b : F32) :
    (F32.sub a b = F32.nan 4 a b ∧ (F32.isNaN a = true ∨ F32.isNaN b = true ∨
        (F32.isInf a = true ∧ F32.isInf b = true ∧ F32.sign a = F32.sign b))) ∨
      F32.sub a b = F32.add a (F32.neg b) := by
  unfold F32.sub
  split
  · next h => exact .inl ⟨rfl, by simpa [or_assoc, and_assoc] using h⟩
  · exact .inr rfl

/-- On finite operands a subtraction is the addition of the negated operand. -/
theorem F32.sub_eq_add_neg {a b : F32} (ha : F32.isFinite a = true) (hb : F32.isFinite b = true) :
    F32.sub a b = F32.add a (F32.neg b) := by
  rw [F32.isFinite_iff] at ha
  rcases F32.sub_cases a b with ⟨-, h⟩ | h
  · rw [F32.isNaN_iff, F32.isInf_iff, F32.not_isNaN_of_isFinite hb] at h
    rcases h with h | h | ⟨h, -⟩
    · omega
    · exact Bool.noConfusion h
    · omega
  · exact h

/-! ### Magnitudes -/

/-- The three shapes of magnitude bits: the fraction of a subnormal, or exponent and fraction. -/
theorem F32.scaled_of_lt {m : Nat} (h : m < 2 ^ 24) : F32.scaled m = m := by
  unfold F32.scaled
  by_cases h0 : m / 2 ^ 23 = 0
  · rw [if_pos h0]
  · have h1 : m / 2 ^ 23 = 1 := by omega
    rw [if_neg h0, h1, Nat.sub_self, pow_zero, Nat.mul_one]
    omega

theorem F32.scaled_of_exp {e f : Nat} (hf : f < 2 ^ 23) :
    F32.scaled ((e + 1) * 2 ^ 23 + f) = (f + 2 ^ 23) * 2 ^ e := by
  have h1 : ((e + 1) * 2 ^ 23 + f) / 2 ^ 23 = e + 1 := by omega
  have h2 : ((e + 1) * 2 ^ 23 + f) % 2 ^ 23 = f := by omega
  unfold F32.scaled
  rw [h1, h2]
  simp

@[simp] theorem F32.scaled_zero : F32.scaled 0 = 0 := by decide

/-- Magnitude bits with the exponent field split off. -/
theorem F32.exists_exp {m : Nat} (h : 2 ^ 23 ≤ m) :
    ∃ e f, f < 2 ^ 23 ∧ m = (e + 1) * 2 ^ 23 + f :=
  ⟨m / 2 ^ 23 - 1, m % 2 ^ 23, Nat.mod_lt _ (by norm_num), by omega⟩

theorem F32.scaled_lt_succ (m : Nat) : F32.scaled m < F32.scaled (m + 1) := by
  by_cases h : m + 1 < 2 ^ 23
  · rw [F32.scaled_of_lt (by omega), F32.scaled_of_lt (by omega)]
    omega
  · by_cases h' : m < 2 ^ 23
    · rw [F32.scaled_of_lt (by omega), F32.scaled_of_lt (by omega)]
      omega
    · obtain ⟨e, f, hf, rfl⟩ := F32.exists_exp (by omega : 2 ^ 23 ≤ m)
      rw [F32.scaled_of_exp hf]
      by_cases hc : f + 1 < 2 ^ 23
      · rw [show (e + 1) * 2 ^ 23 + f + 1 = (e + 1) * 2 ^ 23 + (f + 1) by ring, F32.scaled_of_exp hc]
        exact Nat.mul_lt_mul_of_pos_right (by omega) (by positivity)
      · rw [show (e + 1) * 2 ^ 23 + f + 1 = (e + 1 + 1) * 2 ^ 23 + 0 by omega,
          F32.scaled_of_exp (by norm_num), pow_succ]
        have : f + 2 ^ 23 < 2 ^ 23 * 2 := by omega
        calc (f + 2 ^ 23) * 2 ^ e < 2 ^ 23 * 2 * 2 ^ e :=
              Nat.mul_lt_mul_of_pos_right this (by positivity)
          _ = (0 + 2 ^ 23) * (2 ^ e * 2) := by ring

/-- Magnitude bits order magnitudes. -/
theorem F32.scaled_strictMono : StrictMono F32.scaled := strictMono_nat_of_lt_succ F32.scaled_lt_succ

theorem F32.scaled_lt_scaled {a b : Nat} : F32.scaled a < F32.scaled b ↔ a < b :=
  F32.scaled_strictMono.lt_iff_lt

theorem F32.scaled_le_scaled {a b : Nat} : F32.scaled a ≤ F32.scaled b ↔ a ≤ b :=
  F32.scaled_strictMono.le_iff_le

theorem F32.scaled_eq_zero {a : Nat} : F32.scaled a = 0 ↔ a = 0 :=
  ⟨fun h => F32.scaled_strictMono.injective (h.trans F32.scaled_zero.symm), fun h => h ▸ F32.scaled_zero⟩

/-- The exact value of a packed value, in units of `2^-149`. -/
theorem F32.toInt_pack (s : Bool) {m : Nat} (h : m < 2 ^ 31) :
    F32.toInt (F32.pack s m) = if s then -(F32.scaled m : Int) else (F32.scaled m : Int) := by
  unfold F32.toInt
  rw [F32.sign_pack s h, F32.mag_pack s h]

/-! ### The order of values -/

theorem F32.lt_iff {a b : F32} :
    F32.lt a b = true ↔ F32.isNaN a = false ∧ F32.isNaN b = false ∧ F32.toInt a < F32.toInt b := by
  simp [F32.lt, and_assoc]

theorem F32.le_iff {a b : F32} :
    F32.le a b = true ↔ F32.isNaN a = false ∧ F32.isNaN b = false ∧ F32.toInt a ≤ F32.toInt b := by
  simp [F32.le, and_assoc]

theorem F32.le_refl {a : F32} (h : F32.isNaN a = false) : F32.le a a = true :=
  F32.le_iff.2 ⟨h, h, le_rfl⟩

theorem F32.le_trans {a b c : F32} (h : F32.le a b = true) (h' : F32.le b c = true) :
    F32.le a c = true := by
  rw [F32.le_iff] at *
  exact ⟨h.1, h'.2.1, h.2.2.trans h'.2.2⟩

theorem F32.le_of_lt {a b : F32} (h : F32.lt a b = true) : F32.le a b = true := by
  rw [F32.lt_iff] at h
  exact F32.le_iff.2 ⟨h.1, h.2.1, h.2.2.le⟩

/-- Of two values that are not NaNs, either the first is less or the second is not greater. -/
theorem F32.lt_or_le {a b : F32} (ha : F32.isNaN a = false) (hb : F32.isNaN b = false) :
    F32.lt a b = true ∨ F32.le b a = true := by
  rw [F32.lt_iff, F32.le_iff]
  rcases lt_or_ge (F32.toInt a) (F32.toInt b) with h | h
  · exact .inl ⟨ha, hb, h⟩
  · exact .inr ⟨hb, ha, h⟩

theorem F32.lt_eq_false_iff {a b : F32} (ha : F32.isNaN a = false) (hb : F32.isNaN b = false) :
    F32.lt a b = false ↔ F32.le b a = true := by
  rw [← Bool.not_eq_true, F32.lt_iff, F32.le_iff]
  simp [ha, hb]

/-! ### Rounding -/

/-- The quotient of a division, rounded to nearest with ties to even. -/
theorem F32.roundNearest_eq (num den : Nat) :
    F32.roundNearest num den =
      F32.assemble (F32.spacing num den)
        (if den * 2 ^ F32.spacing num den < 2 * (num % (den * 2 ^ F32.spacing num den)) ∨
            (2 * (num % (den * 2 ^ F32.spacing num den)) = den * 2 ^ F32.spacing num den ∧
              num / (den * 2 ^ F32.spacing num den) % 2 = 1)
          then num / (den * 2 ^ F32.spacing num den) + 1
          else num / (den * 2 ^ F32.spacing num den)) := by
  simp [F32.roundNearest]

theorem F32.assemble_le (k m : Nat) : F32.assemble k m ≤ F32.infMag := min_le_right _ _

theorem F32.roundNearest_le (num den : Nat) : F32.roundNearest num den ≤ F32.infMag :=
  F32.assemble_le _ _

theorem F32.roundDown_le (num den : Nat) : F32.roundDown num den ≤ F32.infMag := F32.assemble_le _ _

theorem F32.roundUp_le (num den : Nat) : F32.roundUp num den ≤ F32.infMag := F32.assemble_le _ _

theorem F32.infMag_lt : F32.infMag < 2 ^ 31 := by decide

/-- The spacing and the integer steps of a representable magnitude. -/
theorem F32.spacing_scaled {m den : Nat} (hd : 0 < den) :
    ∃ q, F32.scaled m * den = q * (den * 2 ^ F32.spacing (F32.scaled m * den) den) ∧
      F32.spacing (F32.scaled m * den) den * 2 ^ 23 + q = m := by
  have hq : F32.scaled m * den / den = F32.scaled m := Nat.mul_div_cancel _ hd
  unfold F32.spacing
  rw [hq]
  by_cases h : m < 2 ^ 24
  · rw [F32.scaled_of_lt h]
    have hl : Nat.log2 m - 23 = 0 := by
      by_cases h0 : m = 0
      · simp [h0]
      · have := (Nat.log2_lt h0).2 h
        omega
    exact ⟨m, by simp [hl], by simp [hl]⟩
  · obtain ⟨e, f, hf, rfl⟩ := F32.exists_exp (by omega : 2 ^ 23 ≤ m)
    rw [F32.scaled_of_exp hf]
    have hne : (f + 2 ^ 23) * 2 ^ e ≠ 0 := by positivity
    have hlog : Nat.log2 ((f + 2 ^ 23) * 2 ^ e) = 23 + e := by
      apply (Nat.log2_eq_iff hne).2
      constructor
      · rw [pow_add]
        exact Nat.mul_le_mul_right _ (by omega)
      · rw [show 23 + e + 1 = 24 + e by ring, pow_add]
        exact Nat.mul_lt_mul_of_pos_right (by omega) (by positivity)
    rw [hlog, show 23 + e - 23 = e by omega]
    exact ⟨f + 2 ^ 23, by ring, by ring⟩

/-- Rounding is exact on representable values. -/
theorem F32.roundNearest_scaled {m den : Nat} (hd : 0 < den) (hm : m ≤ F32.infMag) :
    F32.roundNearest (F32.scaled m * den) den = m := by
  obtain ⟨q, h1, h2⟩ := F32.spacing_scaled (m := m) hd
  rw [F32.roundNearest_eq]
  generalize hk : F32.spacing (F32.scaled m * den) den = k at *
  have hpos : 0 < den * 2 ^ k := by positivity
  have hr : F32.scaled m * den % (den * 2 ^ k) = 0 := by rw [h1]; exact Nat.mul_mod_left _ _
  have hdiv : F32.scaled m * den / (den * 2 ^ k) = q := by rw [h1]; exact Nat.mul_div_cancel _ hpos
  rw [hr, hdiv]
  have : ¬(den * 2 ^ k < 2 * 0 ∨ 2 * 0 = den * 2 ^ k ∧ q % 2 = 1) := by omega
  rw [if_neg this, F32.assemble, h2]
  exact Nat.min_eq_left hm

/-- The nearest integer, ties to even, is monotone in the quotient. -/
theorem F32.nearestStep_mono {n d n' d' : Nat} (hd : 0 < d) (hd' : 0 < d') (h : n * d' ≤ n' * d) :
    (if d < 2 * (n % d) ∨ (2 * (n % d) = d ∧ n / d % 2 = 1) then n / d + 1 else n / d) ≤
      (if d' < 2 * (n' % d') ∨ (2 * (n' % d') = d' ∧ n' / d' % 2 = 1) then n' / d' + 1
        else n' / d') := by
  have hq : n / d ≤ n' / d' := by
    rw [Nat.le_div_iff_mul_le hd']
    have h1 : n / d * d ≤ n := Nat.div_mul_le_self n d
    have h2 : n / d * d' * d ≤ n' * d := by
      calc n / d * d' * d = n / d * d * d' := by ring
        _ ≤ n * d' := Nat.mul_le_mul_right _ h1
        _ ≤ n' * d := h
    exact Nat.le_of_mul_le_mul_right h2 hd
  rcases Nat.lt_or_ge (n / d) (n' / d') with hlt | hge
  · split <;> split <;> omega
  · have heq : n / d = n' / d' := Nat.le_antisymm hq hge
    have hn : n = d * (n / d) + n % d := (Nat.div_add_mod n d).symm
    have hn' : n' = d' * (n' / d') + n' % d' := (Nat.div_add_mod n' d').symm
    have hrem : n % d * d' ≤ n' % d' * d := by
      rw [← heq] at hn'
      have : (d * (n / d) + n % d) * d' ≤ (d' * (n / d) + n' % d') * d := by
        rw [← hn, ← hn']; exact h
      nlinarith
    rw [heq]
    by_cases hup : d < 2 * (n % d) ∨ (2 * (n % d) = d ∧ n' / d' % 2 = 1)
    · rw [if_pos hup]
      have hup' : d' < 2 * (n' % d') ∨ (2 * (n' % d') = d' ∧ n' / d' % 2 = 1) := by
        rcases hup with h1 | ⟨h1, h2⟩
        · left
          by_contra hc
          have : 2 * (n' % d') ≤ d' := by omega
          nlinarith
        · rcases Nat.lt_or_ge d' (2 * (n' % d')) with h3 | h3
          · exact .inl h3
          · refine .inr ⟨Nat.le_antisymm h3 ?_, h2⟩
            by_contra hc
            have : 2 * (n' % d') < d' := by omega
            nlinarith
      rw [if_pos hup']
    · rw [if_neg hup]
      split <;> omega

/-- The steps of a rounded magnitude, bounded by the binade of its quotient. -/
theorem F32.quotient_bounds (num den : Nat) :
    num / (den * 2 ^ F32.spacing num den) < 2 ^ 24 ∧
      (0 < F32.spacing num den → 2 ^ 23 ≤ num / (den * 2 ^ F32.spacing num den)) := by
  rw [← Nat.div_div_eq_div_mul]
  unfold F32.spacing
  generalize num / den = q
  by_cases h0 : q = 0
  · simp [h0]
  · have hlt : q < 2 ^ (Nat.log2 q + 1) := Nat.lt_log2_self
    have hle : 2 ^ Nat.log2 q ≤ q := Nat.log2_self_le h0
    constructor
    · rw [Nat.div_lt_iff_lt_mul (by positivity), ← pow_add]
      exact Nat.lt_of_lt_of_le hlt (Nat.pow_le_pow_right (by norm_num) (by omega))
    · intro hk
      rw [Nat.le_div_iff_mul_le (by positivity), ← pow_add]
      exact Nat.le_trans (Nat.pow_le_pow_right (by norm_num) (by omega)) hle

theorem F32.assemble_mono_right {k m m' : Nat} (h : m ≤ m') : F32.assemble k m ≤ F32.assemble k m' := by
  exact min_le_min_right _ (Nat.add_le_add_left h _)

/-- Steps of a smaller spacing are not above full steps of a greater one. -/
theorem F32.assemble_le_assemble {k k' m m' : Nat} (hk : k < k') (hm : m ≤ 2 ^ 24) (hm' : 2 ^ 23 ≤ m') :
    F32.assemble k m ≤ F32.assemble k' m' := by
  apply min_le_min_right
  have : (k + 1) * 2 ^ 23 ≤ k' * 2 ^ 23 := Nat.mul_le_mul_right _ hk
  calc k * 2 ^ 23 + m ≤ k * 2 ^ 23 + (2 ^ 23 + 2 ^ 23) := Nat.add_le_add_left (by omega) _
    _ = (k + 1) * 2 ^ 23 + 2 ^ 23 := by ring
    _ ≤ k' * 2 ^ 23 + m' := Nat.add_le_add this hm'

/-- Rounding to nearest is monotone. -/
theorem F32.roundNearest_mono {num den num' den' : Nat} (hd : 0 < den) (hd' : 0 < den')
    (h : num * den' ≤ num' * den) : F32.roundNearest num den ≤ F32.roundNearest num' den' := by
  have hq : num / den ≤ num' / den' := by
    rw [Nat.le_div_iff_mul_le hd']
    have h1 : num / den * den ≤ num := Nat.div_mul_le_self num den
    have h2 : num / den * den' * den ≤ num' * den := by
      calc num / den * den' * den = num / den * den * den' := by ring
        _ ≤ num * den' := Nat.mul_le_mul_right _ h1
        _ ≤ num' * den := h
    exact Nat.le_of_mul_le_mul_right h2 hd
  have hlog : Nat.log2 (num / den) ≤ Nat.log2 (num' / den') := by
    by_cases h0 : num / den = 0
    · simp [h0]
    · have h1 : 1 ≤ num / den := Nat.pos_of_ne_zero h0
      rw [Nat.le_log2 (Nat.ne_of_gt (Nat.lt_of_lt_of_le h1 hq))]
      exact Nat.le_trans (Nat.log2_self_le h0) hq
  have hk : F32.spacing num den ≤ F32.spacing num' den' := by
    unfold F32.spacing
    omega
  rw [F32.roundNearest_eq, F32.roundNearest_eq]
  rcases hk.eq_or_lt with heq | hlt
  · rw [heq]
    apply F32.assemble_mono_right
    apply F32.nearestStep_mono (by positivity) (by positivity)
    calc num * (den' * 2 ^ F32.spacing num' den') = num * den' * 2 ^ F32.spacing num' den' := by ring
      _ ≤ num' * den * 2 ^ F32.spacing num' den' := Nat.mul_le_mul_right _ h
      _ = num' * (den * 2 ^ F32.spacing num' den') := by ring
  · have hb := (F32.quotient_bounds num den).1
    have hb' := (F32.quotient_bounds num' den').2 (Nat.lt_of_le_of_lt (Nat.zero_le _) hlt)
    apply F32.assemble_le_assemble hlt
    · split
      · exact hb
      · exact hb.le
    · split
      · exact hb'.trans (Nat.le_succ _)
      · exact hb'

/-- A quotient not above a representable magnitude rounds to at most it. -/
theorem F32.roundNearest_le_of_le {num den m : Nat} (hd : 0 < den) (hm : m ≤ F32.infMag)
    (h : num ≤ F32.scaled m * den) : F32.roundNearest num den ≤ m := by
  have := F32.roundNearest_mono hd hd (Nat.mul_le_mul_right den h)
  rwa [F32.roundNearest_scaled hd hm] at this

/-- A quotient not below a representable magnitude rounds to at least it. -/
theorem F32.le_roundNearest_of_le {num den m : Nat} (hd : 0 < den) (hm : m ≤ F32.infMag)
    (h : F32.scaled m * den ≤ num) : m ≤ F32.roundNearest num den := by
  have := F32.roundNearest_mono hd hd (Nat.mul_le_mul_right den h)
  rwa [F32.roundNearest_scaled hd hm] at this

/-! ### The choice in a bracket (R9, R10) -/

/-- All a choice can do: the value between two ends that are not neighbours, or one of two ends that are. -/
theorem F32.choose_cases (split : F32 → Split) (v : F32) (lo hi near : Nat) :
    (lo + 1 < hi ∧ F32.choose split v lo hi near = lo + 1) ∨
      (hi ≤ lo + 1 ∧
        (F32.choose split v lo hi near = lo ∨ F32.choose split v lo hi near = hi)) := by
  unfold F32.choose
  by_cases h : lo + 1 < hi
  · exact .inl ⟨h, if_pos h⟩
  · refine .inr ⟨Nat.not_lt.1 h, ?_⟩
    rw [if_neg h]
    split <;> split <;> simp

/-- A choice stays between the ends. -/
theorem F32.choose_mem (split : F32 → Split) (v : F32) {lo hi : Nat} (near : Nat) (h : lo ≤ hi) :
    lo ≤ F32.choose split v lo hi near ∧ F32.choose split v lo hi near ≤ hi := by
  rcases F32.choose_cases split v lo hi near with ⟨_, hc⟩ | ⟨_, hc | hc⟩ <;> omega

/-! ### clamp (R11) -/

/-- `clamp` of a value within the bounds is the value's own bits, or the bits of a bound equal to it. -/
theorem F32.clamp_bounds (es ts : F32 → Split) {v lo hi : F32} (hlo : F32.isNaN lo = false)
    (hle : F32.le lo hi = true) :
    F32.le lo ((NumSys.binary32 es ts).clamp v lo hi) = true ∧
      F32.le ((NumSys.binary32 es ts).clamp v lo hi) hi = true := by
  have hhi : F32.isNaN hi = false := (F32.le_iff.1 hle).2.1
  have key : ∀ x : F32, F32.isNaN x = false → F32.le lo x = true →
      F32.le lo (if F32.lt x hi then x else hi) = true ∧
        F32.le (if F32.lt x hi then x else hi) hi = true := by
    intro x hx hlx
    by_cases h : F32.lt x hi = true
    · simp [h, hlx, F32.le_of_lt h]
    · simp [h, hle, F32.le_refl hhi]
  unfold NumSys.clamp NumSys.min NumSys.max NumSys.binary32
  by_cases h : F32.lt lo v = true
  · simp only [h, if_true]
    exact key v (F32.lt_iff.1 h).2.1 (F32.le_of_lt h)
  · simp only [h]
    exact key lo hlo (F32.le_refl hlo)

end Sys2Proof
end

