-- ==== Sys2Proof/Laws/State.lean ====
section
/-! SUPPORT. One lemma per field per update of the state, so that no later proof unfolds a record
update. -/

namespace Sys2Proof.Machine

variable {α : Type} (N : NumSys α) (p : Params α) (c : ConfigRegs α)


/-! ### `EngineState.setVoice` -/

@[simp] theorem EngineState.setVoice_params (e : EngineState α) (v : VoiceRegs α) :
    (e.setVoice v).params = e.params := rfl
@[simp] theorem EngineState.setVoice_voice (e : EngineState α) (v : VoiceRegs α) :
    (e.setVoice v).voice = v := rfl
@[simp] theorem EngineState.setVoice_sampleCount (e : EngineState α) (v : VoiceRegs α) :
    (e.setVoice v).sampleCount = e.sampleCount := rfl
@[simp] theorem EngineState.setVoice_seq (e : EngineState α) (v : VoiceRegs α) :
    (e.setVoice v).seq = e.seq := rfl
@[simp] theorem EngineState.setVoice_cr (e : EngineState α) (v : VoiceRegs α) :
    (e.setVoice v).cr = e.cr := rfl
@[simp] theorem EngineState.setVoice_patS (e : EngineState α) (v : VoiceRegs α) :
    (e.setVoice v).patS = e.patS := rfl
@[simp] theorem EngineState.setVoice_patD (e : EngineState α) (v : VoiceRegs α) :
    (e.setVoice v).patD = e.patD := rfl
@[simp] theorem EngineState.setVoice_out (e : EngineState α) (v : VoiceRegs α) :
    (e.setVoice v).out = e.out := rfl
@[simp] theorem EngineState.setVoice_resp (e : EngineState α) (v : VoiceRegs α) :
    (e.setVoice v).resp = e.resp := rfl
@[simp] theorem EngineState.setVoice_trig (e : EngineState α) (v : VoiceRegs α) :
    (e.setVoice v).trig = e.trig := rfl

/-! ### `EngineState.setSeq` -/

@[simp] theorem EngineState.setSeq_params (e : EngineState α) (q : SeqRegs α) :
    (e.setSeq q).params = e.params := rfl
@[simp] theorem EngineState.setSeq_voice (e : EngineState α) (q : SeqRegs α) :
    (e.setSeq q).voice = e.voice := rfl
@[simp] theorem EngineState.setSeq_sampleCount (e : EngineState α) (q : SeqRegs α) :
    (e.setSeq q).sampleCount = e.sampleCount := rfl
@[simp] theorem EngineState.setSeq_seq (e : EngineState α) (q : SeqRegs α) : (e.setSeq q).seq = q := rfl
@[simp] theorem EngineState.setSeq_cr (e : EngineState α) (q : SeqRegs α) : (e.setSeq q).cr = e.cr := rfl
@[simp] theorem EngineState.setSeq_patS (e : EngineState α) (q : SeqRegs α) :
    (e.setSeq q).patS = e.patS := rfl
@[simp] theorem EngineState.setSeq_patD (e : EngineState α) (q : SeqRegs α) :
    (e.setSeq q).patD = e.patD := rfl
@[simp] theorem EngineState.setSeq_out (e : EngineState α) (q : SeqRegs α) : (e.setSeq q).out = e.out := rfl
@[simp] theorem EngineState.setSeq_resp (e : EngineState α) (q : SeqRegs α) :
    (e.setSeq q).resp = e.resp := rfl
@[simp] theorem EngineState.setSeq_trig (e : EngineState α) (q : SeqRegs α) :
    (e.setSeq q).trig = e.trig := rfl

/-! ### `EngineState.setCr` -/

@[simp] theorem EngineState.setCr_params (e : EngineState α) (c : ConfigRegs α) :
    (e.setCr c).params = e.params := rfl
@[simp] theorem EngineState.setCr_voice (e : EngineState α) (c : ConfigRegs α) :
    (e.setCr c).voice = e.voice := rfl
@[simp] theorem EngineState.setCr_sampleCount (e : EngineState α) (c : ConfigRegs α) :
    (e.setCr c).sampleCount = e.sampleCount := rfl
@[simp] theorem EngineState.setCr_seq (e : EngineState α) (c : ConfigRegs α) :
    (e.setCr c).seq = e.seq := rfl
@[simp] theorem EngineState.setCr_cr (e : EngineState α) (c : ConfigRegs α) : (e.setCr c).cr = c := rfl
@[simp] theorem EngineState.setCr_patS (e : EngineState α) (c : ConfigRegs α) :
    (e.setCr c).patS = e.patS := rfl
@[simp] theorem EngineState.setCr_patD (e : EngineState α) (c : ConfigRegs α) :
    (e.setCr c).patD = e.patD := rfl
@[simp] theorem EngineState.setCr_out (e : EngineState α) (c : ConfigRegs α) :
    (e.setCr c).out = e.out := rfl
@[simp] theorem EngineState.setCr_resp (e : EngineState α) (c : ConfigRegs α) :
    (e.setCr c).resp = e.resp := rfl
@[simp] theorem EngineState.setCr_trig (e : EngineState α) (c : ConfigRegs α) :
    (e.setCr c).trig = e.trig := rfl

/-! ### `EngineState.respond` -/

@[simp] theorem EngineState.respond_params (e : EngineState α) (w : BitVec 32) :
    (e.respond w).params = e.params := rfl
@[simp] theorem EngineState.respond_voice (e : EngineState α) (w : BitVec 32) :
    (e.respond w).voice = e.voice := rfl
@[simp] theorem EngineState.respond_sampleCount (e : EngineState α) (w : BitVec 32) :
    (e.respond w).sampleCount = e.sampleCount := rfl
@[simp] theorem EngineState.respond_seq (e : EngineState α) (w : BitVec 32) :
    (e.respond w).seq = e.seq := rfl
@[simp] theorem EngineState.respond_cr (e : EngineState α) (w : BitVec 32) : (e.respond w).cr = e.cr := rfl
@[simp] theorem EngineState.respond_patS (e : EngineState α) (w : BitVec 32) :
    (e.respond w).patS = e.patS := rfl
@[simp] theorem EngineState.respond_patD (e : EngineState α) (w : BitVec 32) :
    (e.respond w).patD = e.patD := rfl
@[simp] theorem EngineState.respond_out (e : EngineState α) (w : BitVec 32) :
    (e.respond w).out = e.out := rfl
@[simp] theorem EngineState.respond_resp (e : EngineState α) (w : BitVec 32) : (e.respond w).resp = w := rfl
@[simp] theorem EngineState.respond_trig (e : EngineState α) (w : BitVec 32) :
    (e.respond w).trig = e.trig := rfl

/-! ### `EngineState.emit` -/

@[simp] theorem EngineState.emit_params (e : EngineState α) (x : α) (t : BitVec 4) :
    (e.emit x t).params = e.params := rfl
@[simp] theorem EngineState.emit_voice (e : EngineState α) (x : α) (t : BitVec 4) :
    (e.emit x t).voice = e.voice := rfl
@[simp] theorem EngineState.emit_sampleCount (e : EngineState α) (x : α) (t : BitVec 4) :
    (e.emit x t).sampleCount = e.sampleCount := rfl
@[simp] theorem EngineState.emit_seq (e : EngineState α) (x : α) (t : BitVec 4) :
    (e.emit x t).seq = e.seq := rfl
@[simp] theorem EngineState.emit_cr (e : EngineState α) (x : α) (t : BitVec 4) :
    (e.emit x t).cr = e.cr := rfl
@[simp] theorem EngineState.emit_patS (e : EngineState α) (x : α) (t : BitVec 4) :
    (e.emit x t).patS = e.patS := rfl
@[simp] theorem EngineState.emit_patD (e : EngineState α) (x : α) (t : BitVec 4) :
    (e.emit x t).patD = e.patD := rfl
@[simp] theorem EngineState.emit_out (e : EngineState α) (x : α) (t : BitVec 4) :
    (e.emit x t).out = x := rfl
@[simp] theorem EngineState.emit_resp (e : EngineState α) (x : α) (t : BitVec 4) :
    (e.emit x t).resp = e.resp := rfl
@[simp] theorem EngineState.emit_trig (e : EngineState α) (x : α) (t : BitVec 4) :
    (e.emit x t).trig = t := rfl

/-! ### `EngineState.countTick` -/

@[simp] theorem EngineState.countTick_params (e : EngineState α) : (e.countTick).params = e.params := rfl
@[simp] theorem EngineState.countTick_voice (e : EngineState α) : (e.countTick).voice = e.voice := rfl
@[simp] theorem EngineState.countTick_sampleCount (e : EngineState α) :
    (e.countTick).sampleCount = e.sampleCount + 1#64 := rfl
@[simp] theorem EngineState.countTick_seq (e : EngineState α) : (e.countTick).seq = e.seq := rfl
@[simp] theorem EngineState.countTick_cr (e : EngineState α) : (e.countTick).cr = e.cr := rfl
@[simp] theorem EngineState.countTick_patS (e : EngineState α) : (e.countTick).patS = e.patS := rfl
@[simp] theorem EngineState.countTick_patD (e : EngineState α) : (e.countTick).patD = e.patD := rfl
@[simp] theorem EngineState.countTick_out (e : EngineState α) : (e.countTick).out = e.out := rfl
@[simp] theorem EngineState.countTick_resp (e : EngineState α) : (e.countTick).resp = e.resp := rfl
@[simp] theorem EngineState.countTick_trig (e : EngineState α) : (e.countTick).trig = e.trig := rfl

/-! ### `State.onEngine` -/

@[simp] theorem State.onEngine_toEngineState (f : EngineState F32 → EngineState F32) (s : State) :
    (s.onEngine f).toEngineState = f s.toEngineState := rfl
@[simp] theorem State.onEngine_outValid (f : EngineState F32 → EngineState F32) (s : State) :
    (s.onEngine f).outValid = s.outValid := rfl
@[simp] theorem State.onEngine_respValid (f : EngineState F32 → EngineState F32) (s : State) :
    (s.onEngine f).respValid = s.respValid := rfl
@[simp] theorem State.onEngine_port (f : EngineState F32 → EngineState F32) (s : State) :
    (s.onEngine f).port = s.port := rfl
@[simp] theorem State.onEngine_drumIn (f : EngineState F32 → EngineState F32) (s : State) :
    (s.onEngine f).drumIn = s.drumIn := rfl
@[simp] theorem State.onEngine_drumEnv (f : EngineState F32 → EngineState F32) (s : State) :
    (s.onEngine f).drumEnv = s.drumEnv := rfl
@[simp] theorem State.onEngine_trigHistory (f : EngineState F32 → EngineState F32) (s : State) :
    (s.onEngine f).trigHistory = s.trigHistory := rfl

/-! ### `State.answer` -/

@[simp] theorem State.answer_toEngineState (f : EngineState F32 → EngineState F32) (s : State) :
    (s.answer f).toEngineState = f s.toEngineState := rfl
@[simp] theorem State.answer_outValid (f : EngineState F32 → EngineState F32) (s : State) :
    (s.answer f).outValid = s.outValid := rfl
@[simp] theorem State.answer_respValid (f : EngineState F32 → EngineState F32) (s : State) :
    (s.answer f).respValid = true := rfl
@[simp] theorem State.answer_port (f : EngineState F32 → EngineState F32) (s : State) :
    (s.answer f).port = s.port := rfl
@[simp] theorem State.answer_drumIn (f : EngineState F32 → EngineState F32) (s : State) :
    (s.answer f).drumIn = s.drumIn := rfl
@[simp] theorem State.answer_drumEnv (f : EngineState F32 → EngineState F32) (s : State) :
    (s.answer f).drumEnv = s.drumEnv := rfl
@[simp] theorem State.answer_trigHistory (f : EngineState F32 → EngineState F32) (s : State) :
    (s.answer f).trigHistory = s.trigHistory := rfl

/-! ### `State.accept` -/

@[simp] theorem State.accept_toEngineState (s : State) (rest : List PortEvent) :
    (s.accept rest).toEngineState = s.toEngineState := rfl
@[simp] theorem State.accept_outValid (s : State) (rest : List PortEvent) :
    (s.accept rest).outValid = false := rfl
@[simp] theorem State.accept_respValid (s : State) (rest : List PortEvent) :
    (s.accept rest).respValid = false := rfl
@[simp] theorem State.accept_port (s : State) (rest : List PortEvent) : (s.accept rest).port = rest := rfl
@[simp] theorem State.accept_drumIn (s : State) (rest : List PortEvent) :
    (s.accept rest).drumIn = s.drumIn := rfl
@[simp] theorem State.accept_drumEnv (s : State) (rest : List PortEvent) :
    (s.accept rest).drumEnv = s.drumEnv := rfl
@[simp] theorem State.accept_trigHistory (s : State) (rest : List PortEvent) :
    (s.accept rest).trigHistory = s.trigHistory := rfl

/-! ### `State.sampleDone` -/

@[simp] theorem State.sampleDone_toEngineState (s : State) :
    (s.sampleDone).toEngineState = s.toEngineState := rfl
@[simp] theorem State.sampleDone_outValid (s : State) : (s.sampleDone).outValid = true := rfl
@[simp] theorem State.sampleDone_respValid (s : State) : (s.sampleDone).respValid = s.respValid := rfl
@[simp] theorem State.sampleDone_port (s : State) : (s.sampleDone).port = s.port := rfl
@[simp] theorem State.sampleDone_drumIn (s : State) : (s.sampleDone).drumIn = s.drumIn.tail := rfl
@[simp] theorem State.sampleDone_drumEnv (s : State) : (s.sampleDone).drumEnv = s.drumEnv := rfl
@[simp] theorem State.sampleDone_trigHistory (s : State) :
    (s.sampleDone).trigHistory = s.trig :: s.trigHistory := rfl

/-! ### Voice registers -/

@[simp] theorem setGate_phase (b : Bool) (v : VoiceRegs α) : (setGate b v).phase = v.phase := rfl
@[simp] theorem setGate_freqCurrent (b : Bool) (v : VoiceRegs α) :
    (setGate b v).freqCurrent = v.freqCurrent := rfl
@[simp] theorem setGate_freqTarget (b : Bool) (v : VoiceRegs α) :
    (setGate b v).freqTarget = v.freqTarget := rfl
@[simp] theorem setGate_gate (b : Bool) (v : VoiceRegs α) : (setGate b v).gate = b := rfl
@[simp] theorem setGate_envValue (b : Bool) (v : VoiceRegs α) : (setGate b v).envValue = v.envValue := rfl
@[simp] theorem setGate_decayCoef (b : Bool) (v : VoiceRegs α) :
    (setGate b v).decayCoef = v.decayCoef := rfl
@[simp] theorem setGate_y1 (b : Bool) (v : VoiceRegs α) : (setGate b v).y1 = v.y1 := rfl
@[simp] theorem setGate_y2 (b : Bool) (v : VoiceRegs α) : (setGate b v).y2 = v.y2 := rfl
@[simp] theorem setGate_y3 (b : Bool) (v : VoiceRegs α) : (setGate b v).y3 = v.y3 := rfl
@[simp] theorem setGate_accentLevel (b : Bool) (v : VoiceRegs α) :
    (setGate b v).accentLevel = v.accentLevel := rfl

@[simp] theorem aimGlide_phase (hz : α) (v : VoiceRegs α) : (aimGlide hz v).phase = v.phase := rfl
@[simp] theorem aimGlide_freqCurrent (hz : α) (v : VoiceRegs α) :
    (aimGlide hz v).freqCurrent = v.freqCurrent := rfl
@[simp] theorem aimGlide_freqTarget (hz : α) (v : VoiceRegs α) : (aimGlide hz v).freqTarget = hz := rfl
@[simp] theorem aimGlide_gate (hz : α) (v : VoiceRegs α) : (aimGlide hz v).gate = v.gate := rfl
@[simp] theorem aimGlide_envValue (hz : α) (v : VoiceRegs α) : (aimGlide hz v).envValue = v.envValue := rfl
@[simp] theorem aimGlide_decayCoef (hz : α) (v : VoiceRegs α) :
    (aimGlide hz v).decayCoef = v.decayCoef := rfl
@[simp] theorem aimGlide_y1 (hz : α) (v : VoiceRegs α) : (aimGlide hz v).y1 = v.y1 := rfl
@[simp] theorem aimGlide_y2 (hz : α) (v : VoiceRegs α) : (aimGlide hz v).y2 = v.y2 := rfl
@[simp] theorem aimGlide_y3 (hz : α) (v : VoiceRegs α) : (aimGlide hz v).y3 = v.y3 := rfl
@[simp] theorem aimGlide_accentLevel (hz : α) (v : VoiceRegs α) :
    (aimGlide hz v).accentLevel = v.accentLevel := rfl

@[simp] theorem jumpPitch_phase (hz : α) (v : VoiceRegs α) : (jumpPitch hz v).phase = v.phase := rfl
@[simp] theorem jumpPitch_freqCurrent (hz : α) (v : VoiceRegs α) : (jumpPitch hz v).freqCurrent = hz := rfl
@[simp] theorem jumpPitch_freqTarget (hz : α) (v : VoiceRegs α) : (jumpPitch hz v).freqTarget = hz := rfl
@[simp] theorem jumpPitch_gate (hz : α) (v : VoiceRegs α) : (jumpPitch hz v).gate = v.gate := rfl
@[simp] theorem jumpPitch_envValue (hz : α) (v : VoiceRegs α) :
    (jumpPitch hz v).envValue = v.envValue := rfl
@[simp] theorem jumpPitch_decayCoef (hz : α) (v : VoiceRegs α) :
    (jumpPitch hz v).decayCoef = v.decayCoef := rfl
@[simp] theorem jumpPitch_y1 (hz : α) (v : VoiceRegs α) : (jumpPitch hz v).y1 = v.y1 := rfl
@[simp] theorem jumpPitch_y2 (hz : α) (v : VoiceRegs α) : (jumpPitch hz v).y2 = v.y2 := rfl
@[simp] theorem jumpPitch_y3 (hz : α) (v : VoiceRegs α) : (jumpPitch hz v).y3 = v.y3 := rfl
@[simp] theorem jumpPitch_accentLevel (hz : α) (v : VoiceRegs α) :
    (jumpPitch hz v).accentLevel = v.accentLevel := rfl

@[simp] theorem latchAccent_phase (a : Bool) (v : VoiceRegs α) :
    (latchAccent N c a v).phase = v.phase := rfl
@[simp] theorem latchAccent_freqCurrent (a : Bool) (v : VoiceRegs α) :
    (latchAccent N c a v).freqCurrent = v.freqCurrent := rfl
@[simp] theorem latchAccent_freqTarget (a : Bool) (v : VoiceRegs α) :
    (latchAccent N c a v).freqTarget = v.freqTarget := rfl
@[simp] theorem latchAccent_gate (a : Bool) (v : VoiceRegs α) : (latchAccent N c a v).gate = v.gate := rfl
@[simp] theorem latchAccent_envValue (a : Bool) (v : VoiceRegs α) :
    (latchAccent N c a v).envValue = v.envValue := rfl
@[simp] theorem latchAccent_decayCoef (a : Bool) (v : VoiceRegs α) :
    (latchAccent N c a v).decayCoef = v.decayCoef := rfl
@[simp] theorem latchAccent_y1 (a : Bool) (v : VoiceRegs α) : (latchAccent N c a v).y1 = v.y1 := rfl
@[simp] theorem latchAccent_y2 (a : Bool) (v : VoiceRegs α) : (latchAccent N c a v).y2 = v.y2 := rfl
@[simp] theorem latchAccent_y3 (a : Bool) (v : VoiceRegs α) : (latchAccent N c a v).y3 = v.y3 := rfl
@[simp] theorem latchAccent_accentLevel (a : Bool) (v : VoiceRegs α) :
    (latchAccent N c a v).accentLevel = if a then c.accentAmount else N.zero := rfl

@[simp] theorem triggerEnvelope_phase (a : Bool) (v : VoiceRegs α) :
    (triggerEnvelope N p c a v).phase = v.phase := rfl
@[simp] theorem triggerEnvelope_freqCurrent (a : Bool) (v : VoiceRegs α) :
    (triggerEnvelope N p c a v).freqCurrent = v.freqCurrent := rfl
@[simp] theorem triggerEnvelope_freqTarget (a : Bool) (v : VoiceRegs α) :
    (triggerEnvelope N p c a v).freqTarget = v.freqTarget := rfl
@[simp] theorem triggerEnvelope_gate (a : Bool) (v : VoiceRegs α) :
    (triggerEnvelope N p c a v).gate = v.gate := rfl
@[simp] theorem triggerEnvelope_envValue (a : Bool) (v : VoiceRegs α) :
    (triggerEnvelope N p c a v).envValue = N.one := rfl
@[simp] theorem triggerEnvelope_decayCoef (a : Bool) (v : VoiceRegs α) :
    (triggerEnvelope N p c a v).decayCoef = triggerCoef N p.tuning c.decayMs a := rfl
@[simp] theorem triggerEnvelope_y1 (a : Bool) (v : VoiceRegs α) :
    (triggerEnvelope N p c a v).y1 = v.y1 := rfl
@[simp] theorem triggerEnvelope_y2 (a : Bool) (v : VoiceRegs α) :
    (triggerEnvelope N p c a v).y2 = v.y2 := rfl
@[simp] theorem triggerEnvelope_y3 (a : Bool) (v : VoiceRegs α) :
    (triggerEnvelope N p c a v).y3 = v.y3 := rfl
@[simp] theorem triggerEnvelope_accentLevel (a : Bool) (v : VoiceRegs α) :
    (triggerEnvelope N p c a v).accentLevel = v.accentLevel := rfl

@[simp] theorem glideVoice_phase (v : VoiceRegs α) : (glideVoice N p c v).phase = v.phase := rfl
@[simp] theorem glideVoice_freqCurrent (v : VoiceRegs α) :
    (glideVoice N p c v).freqCurrent = slideStep N p.tuning c.slideTimeMs v.freqCurrent v.freqTarget := rfl
@[simp] theorem glideVoice_freqTarget (v : VoiceRegs α) :
    (glideVoice N p c v).freqTarget = v.freqTarget := rfl
@[simp] theorem glideVoice_gate (v : VoiceRegs α) : (glideVoice N p c v).gate = v.gate := rfl
@[simp] theorem glideVoice_envValue (v : VoiceRegs α) : (glideVoice N p c v).envValue = v.envValue := rfl
@[simp] theorem glideVoice_decayCoef (v : VoiceRegs α) : (glideVoice N p c v).decayCoef = v.decayCoef := rfl
@[simp] theorem glideVoice_y1 (v : VoiceRegs α) : (glideVoice N p c v).y1 = v.y1 := rfl
@[simp] theorem glideVoice_y2 (v : VoiceRegs α) : (glideVoice N p c v).y2 = v.y2 := rfl
@[simp] theorem glideVoice_y3 (v : VoiceRegs α) : (glideVoice N p c v).y3 = v.y3 := rfl
@[simp] theorem glideVoice_accentLevel (v : VoiceRegs α) :
    (glideVoice N p c v).accentLevel = v.accentLevel := rfl

@[simp] theorem setPhase_phase (x : α) (v : VoiceRegs α) : (setPhase x v).phase = x := rfl
@[simp] theorem setPhase_freqCurrent (x : α) (v : VoiceRegs α) :
    (setPhase x v).freqCurrent = v.freqCurrent := rfl
@[simp] theorem setPhase_freqTarget (x : α) (v : VoiceRegs α) :
    (setPhase x v).freqTarget = v.freqTarget := rfl
@[simp] theorem setPhase_gate (x : α) (v : VoiceRegs α) : (setPhase x v).gate = v.gate := rfl
@[simp] theorem setPhase_envValue (x : α) (v : VoiceRegs α) : (setPhase x v).envValue = v.envValue := rfl
@[simp] theorem setPhase_decayCoef (x : α) (v : VoiceRegs α) : (setPhase x v).decayCoef = v.decayCoef := rfl
@[simp] theorem setPhase_y1 (x : α) (v : VoiceRegs α) : (setPhase x v).y1 = v.y1 := rfl
@[simp] theorem setPhase_y2 (x : α) (v : VoiceRegs α) : (setPhase x v).y2 = v.y2 := rfl
@[simp] theorem setPhase_y3 (x : α) (v : VoiceRegs α) : (setPhase x v).y3 = v.y3 := rfl
@[simp] theorem setPhase_accentLevel (x : α) (v : VoiceRegs α) :
    (setPhase x v).accentLevel = v.accentLevel := rfl

@[simp] theorem decayVoice_phase (v : VoiceRegs α) : (decayVoice N p v).phase = v.phase := rfl
@[simp] theorem decayVoice_freqCurrent (v : VoiceRegs α) :
    (decayVoice N p v).freqCurrent = v.freqCurrent := rfl
@[simp] theorem decayVoice_freqTarget (v : VoiceRegs α) :
    (decayVoice N p v).freqTarget = v.freqTarget := rfl
@[simp] theorem decayVoice_gate (v : VoiceRegs α) : (decayVoice N p v).gate = v.gate := rfl
@[simp] theorem decayVoice_envValue (v : VoiceRegs α) :
    (decayVoice N p v).envValue = envelopeStep N p.tuning v.envValue v.decayCoef := rfl
@[simp] theorem decayVoice_decayCoef (v : VoiceRegs α) : (decayVoice N p v).decayCoef = v.decayCoef := rfl
@[simp] theorem decayVoice_y1 (v : VoiceRegs α) : (decayVoice N p v).y1 = v.y1 := rfl
@[simp] theorem decayVoice_y2 (v : VoiceRegs α) : (decayVoice N p v).y2 = v.y2 := rfl
@[simp] theorem decayVoice_y3 (v : VoiceRegs α) : (decayVoice N p v).y3 = v.y3 := rfl
@[simp] theorem decayVoice_accentLevel (v : VoiceRegs α) :
    (decayVoice N p v).accentLevel = v.accentLevel := rfl

@[simp] theorem filterVoice_phase (o : α) (v : VoiceRegs α) : (filterVoice N p c o v).phase = v.phase := rfl
@[simp] theorem filterVoice_freqCurrent (o : α) (v : VoiceRegs α) :
    (filterVoice N p c o v).freqCurrent = v.freqCurrent := rfl
@[simp] theorem filterVoice_freqTarget (o : α) (v : VoiceRegs α) :
    (filterVoice N p c o v).freqTarget = v.freqTarget := rfl
@[simp] theorem filterVoice_gate (o : α) (v : VoiceRegs α) : (filterVoice N p c o v).gate = v.gate := rfl
@[simp] theorem filterVoice_envValue (o : α) (v : VoiceRegs α) :
    (filterVoice N p c o v).envValue = v.envValue := rfl
@[simp] theorem filterVoice_decayCoef (o : α) (v : VoiceRegs α) :
    (filterVoice N p c o v).decayCoef = v.decayCoef := rfl
@[simp] theorem filterVoice_y1 (o : α) (v : VoiceRegs α) :
    (filterVoice N p c o v).y1 = (filterStepWith N p.tuning (buildFbScale N p) (filterControls c v) o v.envValue
      ⟨v.y1, v.y2, v.y3⟩).y1 := rfl
@[simp] theorem filterVoice_y2 (o : α) (v : VoiceRegs α) :
    (filterVoice N p c o v).y2 = (filterStepWith N p.tuning (buildFbScale N p) (filterControls c v) o v.envValue
      ⟨v.y1, v.y2, v.y3⟩).y2 := rfl
@[simp] theorem filterVoice_y3 (o : α) (v : VoiceRegs α) :
    (filterVoice N p c o v).y3 = (filterStepWith N p.tuning (buildFbScale N p) (filterControls c v) o v.envValue
      ⟨v.y1, v.y2, v.y3⟩).y3 := rfl
@[simp] theorem filterVoice_accentLevel (o : α) (v : VoiceRegs α) :
    (filterVoice N p c o v).accentLevel = v.accentLevel := rfl

/-! ### Sequencer registers -/

@[simp] theorem setRunning_running (b : Bool) (q : SeqRegs α) : (setRunning b q).running = b := rfl
@[simp] theorem setRunning_currentStep (b : Bool) (q : SeqRegs α) :
    (setRunning b q).currentStep = q.currentStep := rfl
@[simp] theorem setRunning_samplesPerStep (b : Bool) (q : SeqRegs α) :
    (setRunning b q).samplesPerStep = q.samplesPerStep := rfl
@[simp] theorem setRunning_samplesIntoStep (b : Bool) (q : SeqRegs α) :
    (setRunning b q).samplesIntoStep = q.samplesIntoStep := rfl
@[simp] theorem setRunning_synthStepChanged (b : Bool) (q : SeqRegs α) :
    (setRunning b q).synthStepChanged = q.synthStepChanged := rfl
@[simp] theorem setRunning_drumStepChanged (b : Bool) (q : SeqRegs α) :
    (setRunning b q).drumStepChanged = q.drumStepChanged := rfl

@[simp] theorem markStepChanged_running (q : SeqRegs α) : (markStepChanged q).running = q.running := rfl
@[simp] theorem markStepChanged_currentStep (q : SeqRegs α) :
    (markStepChanged q).currentStep = q.currentStep := rfl
@[simp] theorem markStepChanged_samplesPerStep (q : SeqRegs α) :
    (markStepChanged q).samplesPerStep = q.samplesPerStep := rfl
@[simp] theorem markStepChanged_samplesIntoStep (q : SeqRegs α) :
    (markStepChanged q).samplesIntoStep = q.samplesIntoStep := rfl
@[simp] theorem markStepChanged_synthStepChanged (q : SeqRegs α) :
    (markStepChanged q).synthStepChanged = true := rfl
@[simp] theorem markStepChanged_drumStepChanged (q : SeqRegs α) :
    (markStepChanged q).drumStepChanged = true := rfl

@[simp] theorem clearSynthChanged_running (q : SeqRegs α) : (clearSynthChanged q).running = q.running := rfl
@[simp] theorem clearSynthChanged_currentStep (q : SeqRegs α) :
    (clearSynthChanged q).currentStep = q.currentStep := rfl
@[simp] theorem clearSynthChanged_samplesPerStep (q : SeqRegs α) :
    (clearSynthChanged q).samplesPerStep = q.samplesPerStep := rfl
@[simp] theorem clearSynthChanged_samplesIntoStep (q : SeqRegs α) :
    (clearSynthChanged q).samplesIntoStep = q.samplesIntoStep := rfl
@[simp] theorem clearSynthChanged_synthStepChanged (q : SeqRegs α) :
    (clearSynthChanged q).synthStepChanged = false := rfl
@[simp] theorem clearSynthChanged_drumStepChanged (q : SeqRegs α) :
    (clearSynthChanged q).drumStepChanged = q.drumStepChanged := rfl

@[simp] theorem clearDrumChanged_running (q : SeqRegs α) : (clearDrumChanged q).running = q.running := rfl
@[simp] theorem clearDrumChanged_currentStep (q : SeqRegs α) :
    (clearDrumChanged q).currentStep = q.currentStep := rfl
@[simp] theorem clearDrumChanged_samplesPerStep (q : SeqRegs α) :
    (clearDrumChanged q).samplesPerStep = q.samplesPerStep := rfl
@[simp] theorem clearDrumChanged_samplesIntoStep (q : SeqRegs α) :
    (clearDrumChanged q).samplesIntoStep = q.samplesIntoStep := rfl
@[simp] theorem clearDrumChanged_synthStepChanged (q : SeqRegs α) :
    (clearDrumChanged q).synthStepChanged = q.synthStepChanged := rfl
@[simp] theorem clearDrumChanged_drumStepChanged (q : SeqRegs α) :
    (clearDrumChanged q).drumStepChanged = false := rfl

@[simp] theorem countedSeq_running (q : SeqRegs α) : (countedSeq N q).running = q.running := rfl
@[simp] theorem countedSeq_currentStep (q : SeqRegs α) : (countedSeq N q).currentStep = q.currentStep := rfl
@[simp] theorem countedSeq_samplesPerStep (q : SeqRegs α) :
    (countedSeq N q).samplesPerStep = q.samplesPerStep := rfl
@[simp] theorem countedSeq_samplesIntoStep (q : SeqRegs α) :
    (countedSeq N q).samplesIntoStep = countSample N q.samplesIntoStep := rfl
@[simp] theorem countedSeq_synthStepChanged (q : SeqRegs α) :
    (countedSeq N q).synthStepChanged = q.synthStepChanged := rfl
@[simp] theorem countedSeq_drumStepChanged (q : SeqRegs α) :
    (countedSeq N q).drumStepChanged = q.drumStepChanged := rfl

@[simp] theorem eventSeq_running (tempo : α) (q : SeqRegs α) :
    (eventSeq N p tempo q).running = q.running := rfl
@[simp] theorem eventSeq_currentStep (tempo : α) (q : SeqRegs α) :
    (eventSeq N p tempo q).currentStep = (nextStep p.steps q.currentStep).setWidth 5 := rfl
@[simp] theorem eventSeq_samplesPerStep (tempo : α) (q : SeqRegs α) :
    (eventSeq N p tempo q).samplesPerStep = stepLength N p.stepsPerBeat p.tuning.sr tempo := rfl
@[simp] theorem eventSeq_samplesIntoStep (tempo : α) (q : SeqRegs α) :
    (eventSeq N p tempo q).samplesIntoStep = restartCount N p.seqCarry (q.currentStep == BitVec.ofInt 5 (-1)) q.samplesIntoStep
      q.samplesPerStep := rfl
@[simp] theorem eventSeq_synthStepChanged (tempo : α) (q : SeqRegs α) :
    (eventSeq N p tempo q).synthStepChanged = true := rfl
@[simp] theorem eventSeq_drumStepChanged (tempo : α) (q : SeqRegs α) :
    (eventSeq N p tempo q).drumStepChanged = true := rfl

end Sys2Proof.Machine
end

