-- ==== Sys2Proof/Laws/Ops.lean ====
section
/-! SUPPORT. For each shared operation, one lemma that says once what it can do; for each command, the
equation of its arm. Later proofs cite these and unfold nothing. -/

namespace Sys2Proof.Machine

/-! ### Commands -/

theorem exec_tick (s : State) :
    exec .tick s = .next ((s.onEngine (tickWith hardware s.drumOracle)).sampleDone) := rfl

theorem exec_noteOn (m : BitVec 8) (a sl : Bool) (s : State) :
    exec (.noteOn m a sl) s = .next (s.onEngine (noteOnWith hardware m a sl)) := rfl

theorem exec_noteOff (s : State) : exec .noteOff s = .next (s.onEngine noteOff) := rfl

theorem exec_start (s : State) : exec .start s = .next (s.onEngine (startSeq hardware)) := rfl

theorem exec_stop (s : State) : exec .stop s = .next (s.onEngine stopSeq) := rfl

theorem exec_setWaveform (w : BitVec 32) (s : State) :
    exec (.setWaveform w) s = .next (s.onEngine (setWaveform w)) := rfl

theorem exec_setSynthStep (i n : BitVec 8) (a sl v : Bool) (s : State) :
    exec (.setSynthStep i n a sl v) s = .next (s.onEngine (writeSynthStep i ⟨clampNote n, a, sl, v⟩)) := rfl

theorem exec_setDrumStep (i : BitVec 8) (k n c o : Bool) (s : State) :
    exec (.setDrumStep i k n c o) s = .next (s.onEngine (writeDrumStep i ⟨k, n, c, o⟩)) := rfl

theorem exec_getSynthStep (s : State) : exec .getSynthStep s = .next (s.answer readStep) := rfl

theorem exec_getDrumStep (s : State) : exec .getDrumStep s = .next (s.answer readStep) := rfl

theorem exec_synthStepChanged (s : State) :
    exec .synthStepChanged s = .next (s.answer readSynthChanged) := rfl

theorem exec_drumStepChanged (s : State) :
    exec .drumStepChanged s = .next (s.answer readDrumChanged) := rfl

theorem exec_setCutoff (v : F32) (s : State) :
    exec (.setCutoff v) s = .next (s.onEngine (setFloat hardware .cutoffHz v)) := rfl

theorem exec_setResonance (v : F32) (s : State) :
    exec (.setResonance v) s = .next (s.onEngine (setFloat hardware .resonance v)) := rfl

theorem exec_setEnvMod (v : F32) (s : State) :
    exec (.setEnvMod v) s = .next (s.onEngine (setFloat hardware .envMod v)) := rfl

theorem exec_setDecay (v : F32) (s : State) :
    exec (.setDecay v) s = .next (s.onEngine (setFloat hardware .decayMs v)) := rfl

theorem exec_setAccent (v : F32) (s : State) :
    exec (.setAccent v) s = .next (s.onEngine (setFloat hardware .accentAmount v)) := rfl

theorem exec_setSlideTime (v : F32) (s : State) :
    exec (.setSlideTime v) s = .next (s.onEngine (setFloat hardware .slideTimeMs v)) := rfl

theorem exec_setDistortion (v : F32) (s : State) :
    exec (.setDistortion v) s = .next (s.onEngine (setFloat hardware .distortion v)) := rfl

theorem exec_setTempo (v : F32) (s : State) :
    exec (.setTempo v) s = .next (s.onEngine (setFloat hardware .tempoBpm v)) := rfl

theorem exec_setSynthVolume (v : F32) (s : State) :
    exec (.setSynthVolume v) s = .next (s.onEngine (setFloat hardware .synthGain v)) := rfl

theorem exec_setDrumVolume (v : F32) (s : State) :
    exec (.setDrumVolume v) s = .next (s.onEngine (setFloat hardware .drumMasterGain v)) := rfl

theorem exec_setKickVolume (v : F32) (s : State) :
    exec (.setKickVolume v) s = .next (s.onEngine (setFloat hardware .kickGain v)) := rfl

theorem exec_setSnareVolume (v : F32) (s : State) :
    exec (.setSnareVolume v) s = .next (s.onEngine (setFloat hardware .snareGain v)) := rfl

theorem exec_setHihatVolume (v : F32) (s : State) :
    exec (.setHihatVolume v) s = .next (s.onEngine (setFloat hardware .hihatGain v)) := rfl

/-- Every command answers the next state `afterCommand` names. -/
theorem exec_eq_afterCommand (i : Instr) (s : State) : exec i s = .next (afterCommand i s) := by
  cases i <;> rfl

/-! ### Configuration registers -/

@[simp] theorem readReg_writeReg_same {α : Type} (c : ConfigRegs α) (r : FloatReg) (v : α) :
    readReg (writeReg c r v) r = v := by cases r <;> rfl

theorem readReg_writeReg_other {α : Type} (c : ConfigRegs α) {r r' : FloatReg} (v : α) (h : r' ≠ r) :
    readReg (writeReg c r v) r' = readReg c r' := by
  cases r <;> cases r' <;> first | rfl | exact absurd rfl h

@[simp] theorem writeReg_waveform {α : Type} (c : ConfigRegs α) (r : FloatReg) (v : α) :
    (writeReg c r v).waveform = c.waveform := by cases r <;> rfl

/-- Two register files with the same waveform and the same value in every float register are equal. -/
theorem configRegs_ext {α : Type} {c d : ConfigRegs α} (hw : c.waveform = d.waveform)
    (h : ∀ r, readReg c r = readReg d r) : c = d := by
  cases c
  cases d
  simp only [ConfigRegs.mk.injEq]
  exact ⟨hw, h .cutoffHz, h .resonance, h .envMod, h .decayMs, h .accentAmount, h .slideTimeMs,
    h .distortion, h .tempoBpm, h .synthGain, h .drumMasterGain, h .kickGain, h .snareGain, h .hihatGain⟩

/-- All `SETF` can do (R210): nothing, for a NaN; else one register takes the clamped operand. -/
theorem setFloat_cases {α : Type} (N : NumSys α) (r : FloatReg) (v : α) (e : EngineState α) :
    (N.isNaN v = true ∧ setFloat N r v e = e) ∨
      (N.isNaN v = false ∧ setFloat N r v e =
        e.setCr (writeReg e.cr r (N.clamp v (N.lit (FloatReg.lo r)) (N.lit (FloatReg.hi r))))) := by
  unfold setFloat
  cases h : N.isNaN v <;> simp

/-- All `SET_WAVEFORM` can do (R211): store 0 or 1, or nothing. -/
theorem setWaveform_cases {α : Type} (w : BitVec 32) (e : EngineState α) :
    (w = 0#32 ∧ setWaveform w e = e.setCr { e.cr with waveform := .saw }) ∨
      (w = 1#32 ∧ setWaveform w e = e.setCr { e.cr with waveform := .square }) ∨
      (w ≠ 0#32 ∧ w ≠ 1#32 ∧ setWaveform w e = e) := by
  unfold setWaveform selectWaveform
  by_cases h0 : w = 0#32
  · simp [h0]
  · by_cases h1 : w = 1#32
    · simp [h1]
    · simp [h0, h1]

/-! ### Pattern memories -/

/-- All a write of `PAT_S` can do (R242): one whole entry, or nothing. -/
theorem writeSynthStep_cases {α : Type} (i : BitVec 8) (x : SynthStep) (e : EngineState α) :
    (∃ h : i.toNat < 16,
        writeSynthStep i x e = { e with patS := e.patS.set i.toNat x h }) ∨
      (16 ≤ i.toNat ∧ writeSynthStep i x e = e) := by
  unfold writeSynthStep
  by_cases h : i.toNat < 16
  · exact .inl ⟨h, by simp [h]⟩
  · exact .inr ⟨by omega, by simp [h]⟩

/-- All a write of `PAT_D` can do (R243): one whole entry, or nothing. -/
theorem writeDrumStep_cases {α : Type} (i : BitVec 8) (x : DrumStep) (e : EngineState α) :
    (∃ h : i.toNat < 16,
        writeDrumStep i x e = { e with patD := e.patD.set i.toNat x h }) ∨
      (16 ≤ i.toNat ∧ writeDrumStep i x e = e) := by
  unfold writeDrumStep
  by_cases h : i.toNat < 16
  · exact .inl ⟨h, by simp [h]⟩
  · exact .inr ⟨by omega, by simp [h]⟩

/-- A read after a write of `PAT_S`. -/
theorem readSynthStep_write {α : Type} (i : BitVec 8) (x : SynthStep) (e : EngineState α) (j : BitVec 4) :
    (writeSynthStep i x e).readSynthStep j =
      if i.toNat = j.toNat then x else e.readSynthStep j := by
  rcases writeSynthStep_cases i x e with ⟨h, hw⟩ | ⟨h, hw⟩
  · simp [hw, EngineState.readSynthStep, Vector.getElem_set]
  · simp [hw, show i.toNat ≠ j.toNat by have := j.isLt; omega]

/-- A read after a write of `PAT_D`. -/
theorem readDrumStep_write {α : Type} (i : BitVec 8) (x : DrumStep) (e : EngineState α) (j : BitVec 4) :
    (writeDrumStep i x e).readDrumStep j =
      if i.toNat = j.toNat then x else e.readDrumStep j := by
  rcases writeDrumStep_cases i x e with ⟨h, hw⟩ | ⟨h, hw⟩
  · simp [hw, EngineState.readDrumStep, Vector.getElem_set]
  · simp [hw, show i.toNat ≠ j.toNat by have := j.isLt; omega]

/-! ### Notes, the sequencer, TICK -/

/-- All a note can do to the voice (R196): glide or retrigger. -/
theorem playNote_cases {α : Type} (N : NumSys α) (p : Params α) (c : ConfigRegs α) (m : BitVec 7)
    (a sl : Bool) (v : VoiceRegs α) :
    (glides N p.tuning sl v.envValue = true ∧
      playNote N p c m a sl v = { v with freqTarget := noteHz p m, gate := true }) ∨
    (glides N p.tuning sl v.envValue = false ∧
      playNote N p c m a sl v =
        { v with
          freqCurrent := noteHz p m
          freqTarget := noteHz p m
          accentLevel := if a then c.accentAmount else N.zero
          envValue := N.one
          decayCoef := triggerCoef N p.tuning c.decayMs a
          gate := true }) := by
  unfold playNote
  cases h : glides N p.tuning sl v.envValue
  · exact .inr ⟨rfl, rfl⟩
  · exact .inl ⟨rfl, rfl⟩

/-- All SEQ's tick can do (R238): nothing, count, or count and emit a step event. -/
theorem seqTick_cases {α : Type} (N : NumSys α) (p : Params α) (tempo : α) (q : SeqRegs α) :
    (q.running = false ∧ seqTick N p tempo q = (none, q)) ∨
    (q.running = true ∧ stepDue N (countSample N q.samplesIntoStep) q.samplesPerStep = false ∧
      seqTick N p tempo q = (none, countedSeq N q)) ∨
    (q.running = true ∧ stepDue N (countSample N q.samplesIntoStep) q.samplesPerStep = true ∧
      seqTick N p tempo q =
        (some (nextStep p.steps q.currentStep), eventSeq N p tempo (countedSeq N q))) := by
  unfold seqTick
  cases hr : q.running
  · exact .inl ⟨rfl, rfl⟩
  · refine .inr ?_
    cases hd : stepDue N (countSample N q.samplesIntoStep) q.samplesPerStep
    · exact .inl ⟨rfl, rfl, by simp [hd]⟩
    · exact .inr ⟨rfl, rfl, by simp [hd]⟩

/-- The index of the next step is one more than the step now playing, modulo the number of steps (R15
b). -/
theorem nextStep_toNat {steps : Nat} (h0 : 0 < steps) (h : steps ≤ 16) (k : BitVec 5) :
    ((nextStep steps k).toNat : Int) = (k.toInt + 1) % steps := by
  have hnn := Int.emod_nonneg (k.toInt + 1) (b := (steps : Int)) (by omega)
  have hlt := Int.emod_lt_of_pos (k.toInt + 1) (b := (steps : Int)) (by omega)
  rw [nextStep, BitVec.toNat_ofInt, Int.emod_eq_of_lt hnn (by norm_num; omega)]
  omega

/-- All the first half of `TICK` can do: no event, or an event and its dispatch (R248). -/
theorem sequence_cases {α : Type} (N : NumSys α) (e : EngineState α) :
    (∃ q, seqTick N e.params e.cr.tempoBpm e.seq = (none, q) ∧ sequence N e = (0#4, e.setSeq q)) ∨
    (∃ i q, seqTick N e.params e.cr.tempoBpm e.seq = (some i, q) ∧
      sequence N e = (trigBits (e.readDrumStep i), playStep N (e.readSynthStep i) (e.setSeq q))) := by
  unfold sequence
  rcases h : seqTick N e.params e.cr.tempoBpm e.seq with ⟨_ | i, q⟩
  · exact .inl ⟨q, rfl, rfl⟩
  · exact .inr ⟨i, q, rfl, rfl⟩

/-- All a dispatched synth step can do (R248): its note, or nothing. -/
theorem playStep_cases {α : Type} (N : NumSys α) (x : SynthStep) (e : EngineState α) :
    (x.active = true ∧ playStep N x e = noteOnWith N (x.note.setWidth 8) x.accent x.slide e) ∨
      (x.active = false ∧ playStep N x e = e) := by
  unfold playStep
  cases h : x.active <;> simp

theorem tickWith_eq {α : Type} (N : NumSys α) (oracle : DrumOracle α) (e : EngineState α) :
    tickWith N oracle e =
      finishTick N (sequence N e).1 (oracle (sequence N e).1) (sequence N e).2 := rfl

@[simp] theorem noteOnWith_eq {α : Type} (N : NumSys α) (m : BitVec 8) (a sl : Bool) (e : EngineState α) :
    noteOnWith N m a sl e =
      e.setVoice (playNote N e.params e.cr (clampNote m) a sl e.voice) := rfl

/-! ### Steps -/

theorem step_idle {s : State} (h : s.port = []) : step s = .next (s.accept []) := by
  simp [step, h]

theorem step_command {s : State} {w : CmdWord} {rest : List PortEvent} (h : s.port = .command w :: rest) :
    step s = performWord w (s.accept rest) := by
  simp [step, h]

theorem step_reset {s : State} {sr : F32} {rest : List PortEvent} (h : s.port = .reset sr :: rest) :
    step s = resetStep s sr rest := by
  simp [step, h]

end Sys2Proof.Machine
end

