-- ==== Sys2Proof/Laws/PerInstr.lean ====
section
/-! SUPPORT. What holds of every command as syntax, one lemma per constructor: its encoded word is the one
its row of R90 describes. -/

namespace Sys2Proof.Laws

/-- A concatenation masked half by half. -/
theorem append_and_append (a c : BitVec 8) (b d : BitVec 32) :
    (a ++ b) &&& (c ++ d) = (a &&& c) ++ (b &&& d) := by
  ext i hi
  simp only [BitVec.getElem_and, BitVec.getElem_append]
  split <;> simp

/-- The word of a command matches a row, if opcode and "zero" bits do. -/
theorem matches_commandWord {m : String} {op opMask : BitVec 8} {arg argMask : BitVec 32}
    (hop : op &&& opMask = op) (harg : arg &&& argMask = 0#32) :
    (OpcodeRow.mk m (op ++ 0#32) (opMask ++ argMask)).matches (commandWord op arg) = true := by
  simp [OpcodeRow.matches, commandWord, append_and_append, hop, harg]

/-- `EncodeMatches i`: the encoded word of `i` matches a row of R90's table that bears its mnemonic. -/
def EncodeMatches.Statement (i : Instr) : Prop :=
  ∃ r ∈ opcodeRows, r.mnemonic = i.mnemonic ∧ r.matches (encode i) = true

/-- A command matches the row of its mnemonic, opcode and operand mask. -/
theorem EncodeMatches.of_row {i : Instr} (m : String) (op : BitVec 8) (argMask : BitVec 32)
    (hm : m = i.mnemonic) (ho : op = opcodeByte i)
    (hrow : OpcodeRow.mk m (op ++ 0#32) (0xFF#8 ++ argMask) ∈ opcodeRows)
    (harg : operandBits i &&& argMask = 0#32) : EncodeMatches.Statement i := by
  refine ⟨_, hrow, hm, ?_⟩
  rw [encode, ← ho]
  exact matches_commandWord (BitVec.and_allOnes (x := op)) harg

/-- A command with no operand. -/
theorem EncodeMatches.of_closed {i : Instr} (m : String) (op : BitVec 8) (hm : m = i.mnemonic)
    (ho : op = opcodeByte i) (hrow : OpcodeRow.mk m (op ++ 0#32) (0xFF#8 ++ 0xFFFFFFFF#32) ∈ opcodeRows)
    (harg : operandBits i = 0#32) : EncodeMatches.Statement i :=
  EncodeMatches.of_row m op 0xFFFFFFFF#32 hm ho hrow (by rw [harg]; rfl)

/-- A command whose operand is any 32 bits. -/
theorem EncodeMatches.of_open {i : Instr} (m : String) (op : BitVec 8) (hm : m = i.mnemonic)
    (ho : op = opcodeByte i) (hrow : OpcodeRow.mk m (op ++ 0#32) (0xFF#8 ++ 0x00000000#32) ∈ opcodeRows) :
    EncodeMatches.Statement i :=
  EncodeMatches.of_row m op 0x00000000#32 hm ho hrow (by simp)

/-- A byte placed at bit `k` has no bit outside its field. -/
theorem byteAt_and (v : BitVec 8) (k : Nat) (mask : BitVec 32)
    (h : (0xFF#32 <<< k) &&& mask = 0#32) : byteAt v k &&& mask = 0#32 := by
  have hv : v.setWidth 32 = v.setWidth 32 &&& 0xFF#32 := by
    ext i hi
    simp only [BitVec.getElem_and, BitVec.getElem_setWidth]
    by_cases h8 : i < 8
    · have hbits : ∀ j : Fin 8, (0xFF#32).getLsbD j = true := by decide
      have := hbits ⟨i, h8⟩
      simp [← BitVec.getLsbD_eq_getElem, this]
    · simp [BitVec.getLsbD_of_ge v i (by omega)]
  unfold byteAt
  rw [hv, BitVec.shiftLeft_and_distrib, BitVec.and_assoc, h, BitVec.and_zero]

/-- A flag placed at bit `k` has no bit outside it. -/
theorem flagAt_and (b : Bool) (k : Nat) (mask : BitVec 32)
    (h : BitVec.ofNat 32 (2 ^ k) &&& mask = 0#32) : flagAt b k &&& mask = 0#32 := by
  cases b
  · simp [flagAt]
  · simpa [flagAt] using h

theorem or_and_zero {a b mask : BitVec 32} (ha : a &&& mask = 0#32) (hb : b &&& mask = 0#32) :
    (a ||| b) &&& mask = 0#32 := by
  rw [BitVec.and_comm, BitVec.and_or_distrib_left, BitVec.and_comm mask a, BitVec.and_comm mask b, ha, hb]
  rfl

theorem EncodeMatches.tick : EncodeMatches.Statement .tick :=
  EncodeMatches.of_closed "TICK" 0x01#8 rfl rfl (by decide) rfl

theorem EncodeMatches.noteOff : EncodeMatches.Statement .noteOff :=
  EncodeMatches.of_closed "NOTE_OFF" 0x03#8 rfl rfl (by decide) rfl

theorem EncodeMatches.start : EncodeMatches.Statement .start :=
  EncodeMatches.of_closed "START" 0x04#8 rfl rfl (by decide) rfl

theorem EncodeMatches.stop : EncodeMatches.Statement .stop :=
  EncodeMatches.of_closed "STOP" 0x05#8 rfl rfl (by decide) rfl

theorem EncodeMatches.getSynthStep : EncodeMatches.Statement .getSynthStep :=
  EncodeMatches.of_closed "GET_SYNTH_STEP" 0x40#8 rfl rfl (by decide) rfl

theorem EncodeMatches.getDrumStep : EncodeMatches.Statement .getDrumStep :=
  EncodeMatches.of_closed "GET_DRUM_STEP" 0x41#8 rfl rfl (by decide) rfl

theorem EncodeMatches.synthStepChanged : EncodeMatches.Statement .synthStepChanged :=
  EncodeMatches.of_closed "SYNTH_STEP_CHANGED" 0x42#8 rfl rfl (by decide) rfl

theorem EncodeMatches.drumStepChanged : EncodeMatches.Statement .drumStepChanged :=
  EncodeMatches.of_closed "DRUM_STEP_CHANGED" 0x43#8 rfl rfl (by decide) rfl

theorem EncodeMatches.setWaveform (v : BitVec 32) : EncodeMatches.Statement (.setWaveform v) :=
  EncodeMatches.of_open "SET_WAVEFORM" 0x10#8 rfl rfl (by decide)

theorem EncodeMatches.setCutoff (v : BitVec 32) : EncodeMatches.Statement (.setCutoff v) :=
  EncodeMatches.of_open "SET_CUTOFF" 0x11#8 rfl rfl (by decide)

theorem EncodeMatches.setResonance (v : BitVec 32) : EncodeMatches.Statement (.setResonance v) :=
  EncodeMatches.of_open "SET_RESONANCE" 0x12#8 rfl rfl (by decide)

theorem EncodeMatches.setEnvMod (v : BitVec 32) : EncodeMatches.Statement (.setEnvMod v) :=
  EncodeMatches.of_open "SET_ENV_MOD" 0x13#8 rfl rfl (by decide)

theorem EncodeMatches.setDecay (v : BitVec 32) : EncodeMatches.Statement (.setDecay v) :=
  EncodeMatches.of_open "SET_DECAY" 0x14#8 rfl rfl (by decide)

theorem EncodeMatches.setAccent (v : BitVec 32) : EncodeMatches.Statement (.setAccent v) :=
  EncodeMatches.of_open "SET_ACCENT" 0x15#8 rfl rfl (by decide)

theorem EncodeMatches.setSlideTime (v : BitVec 32) : EncodeMatches.Statement (.setSlideTime v) :=
  EncodeMatches.of_open "SET_SLIDE_TIME" 0x16#8 rfl rfl (by decide)

theorem EncodeMatches.setDistortion (v : BitVec 32) : EncodeMatches.Statement (.setDistortion v) :=
  EncodeMatches.of_open "SET_DISTORTION" 0x17#8 rfl rfl (by decide)

theorem EncodeMatches.setTempo (v : BitVec 32) : EncodeMatches.Statement (.setTempo v) :=
  EncodeMatches.of_open "SET_TEMPO" 0x18#8 rfl rfl (by decide)

theorem EncodeMatches.setSynthVolume (v : BitVec 32) : EncodeMatches.Statement (.setSynthVolume v) :=
  EncodeMatches.of_open "SET_SYNTH_VOLUME" 0x20#8 rfl rfl (by decide)

theorem EncodeMatches.setDrumVolume (v : BitVec 32) : EncodeMatches.Statement (.setDrumVolume v) :=
  EncodeMatches.of_open "SET_DRUM_VOLUME" 0x21#8 rfl rfl (by decide)

theorem EncodeMatches.setKickVolume (v : BitVec 32) : EncodeMatches.Statement (.setKickVolume v) :=
  EncodeMatches.of_open "SET_KICK_VOLUME" 0x22#8 rfl rfl (by decide)

theorem EncodeMatches.setSnareVolume (v : BitVec 32) : EncodeMatches.Statement (.setSnareVolume v) :=
  EncodeMatches.of_open "SET_SNARE_VOLUME" 0x23#8 rfl rfl (by decide)

theorem EncodeMatches.setHihatVolume (v : BitVec 32) : EncodeMatches.Statement (.setHihatVolume v) :=
  EncodeMatches.of_open "SET_HIHAT_VOLUME" 0x24#8 rfl rfl (by decide)

theorem EncodeMatches.noteOn (midi : BitVec 8) (accent slide : Bool) :
    EncodeMatches.Statement (.noteOn midi accent slide) :=
  EncodeMatches.of_row "NOTE_ON" 0x02#8 0xFFFFFC00#32 rfl rfl (by decide)
    (or_and_zero (or_and_zero (byteAt_and _ _ _ (by decide)) (flagAt_and _ _ _ (by decide)))
      (flagAt_and _ _ _ (by decide)))

theorem EncodeMatches.setSynthStep (index note : BitVec 8) (accent slide active : Bool) :
    EncodeMatches.Statement (.setSynthStep index note accent slide active) :=
  EncodeMatches.of_row "SET_SYNTH_STEP" 0x30#8 0xFFF80000#32 rfl rfl (by decide)
    (or_and_zero (or_and_zero (or_and_zero (or_and_zero (byteAt_and _ _ _ (by decide))
      (byteAt_and _ _ _ (by decide))) (flagAt_and _ _ _ (by decide))) (flagAt_and _ _ _ (by decide)))
      (flagAt_and _ _ _ (by decide)))

theorem EncodeMatches.setDrumStep (index : BitVec 8) (kick snare closedHh openHh : Bool) :
    EncodeMatches.Statement (.setDrumStep index kick snare closedHh openHh) :=
  EncodeMatches.of_row "SET_DRUM_STEP" 0x31#8 0xFFFFF000#32 rfl rfl (by decide)
    (or_and_zero (or_and_zero (or_and_zero (or_and_zero (byteAt_and _ _ _ (by decide))
      (flagAt_and _ _ _ (by decide))) (flagAt_and _ _ _ (by decide))) (flagAt_and _ _ _ (by decide)))
      (flagAt_and _ _ _ (by decide)))

end Sys2Proof.Laws
end

