-- ==== Sys2Proof/Tests/Slice0.lean ====
section
/-! SUPPORT. Tests. Expected values are the spec's own: the rule or the section of 95_test_vectors.md
that gives each stands in its comment. The `test_meets_…` theorems show, for every statement with
hypotheses, a state and operands that meet them. -/

namespace Sys2Proof.Machine.Tests

set_option Elab.async false

/-! ### WellFormed: each check refuses an ill-formed word -/

/-- R91: the opcodes 0x00, 0x06, 0x44 and 0xFF are reserved, the all-zero word among them. -/
theorem test_reserved_opcode_refused :
    opcodeDefined 0x0000000000#40 = false ∧ opcodeDefined 0x0600000000#40 = false ∧
      opcodeDefined 0x4400000000#40 = false ∧ opcodeDefined 0xFF12345678#40 = false := by decide

/-- R92: a 1 in a "zero" bit of formats N, K, P, Q and R. -/
theorem test_stray_bit_refused :
    zeroBitsClear 0x0100000001#40 = false ∧ zeroBitsClear 0x0200000400#40 = false ∧
      zeroBitsClear 0x3000080000#40 = false ∧ zeroBitsClear 0x3100001000#40 = false ∧
      zeroBitsClear 0x4280000000#40 = false := by decide

/-- Both checks together, and two words that pass. -/
theorem test_word_well_formed :
    wordWellFormed 0x0000000000#40 = false ∧ wordWellFormed 0x0100000001#40 = false ∧
      wordWellFormed 0x020000032D#40 = true ∧ wordWellFormed 0x117FC00000#40 = true := by decide

/-! ### Decode: a word of every command, opcode byte and fields placed by R81 to R90 -/

/-- Format N: opcode, 32 zero bits. -/
theorem test_decode_format_n :
    decode 0x0100000000#40 = .ok .tick ∧ decode 0x0300000000#40 = .ok .noteOff ∧
      decode 0x0400000000#40 = .ok .start ∧ decode 0x0500000000#40 = .ok .stop := by decide

/-- Format K, each field alone: midi in bits 7 to 0, accent in bit 8, slide in bit 9 (R83, R96). -/
theorem test_decode_format_k :
    decode 0x020000002D#40 = .ok (.noteOn 45#8 false false) ∧
      decode 0x0200000100#40 = .ok (.noteOn 0#8 true false) ∧
      decode 0x0200000200#40 = .ok (.noteOn 0#8 false true) ∧
      decode 0x02000000C8#40 = .ok (.noteOn 200#8 false false) := by decide

/-- Format E (R84, R211). -/
theorem test_decode_format_e :
    decode 0x1000000000#40 = .ok (.setWaveform 0#32) ∧
      decode 0x1000000002#40 = .ok (.setWaveform 2#32) := by
  decide

/-- Format F, the voice setters, words of R212 to R218 and R241. -/
theorem test_decode_voice_setters :
    decode 0x11447A0000#40 = .ok (.setCutoff 0x447A0000#32) ∧
      decode 0x123F800000#40 = .ok (.setResonance 0x3F800000#32) ∧
      decode 0x133E800000#40 = .ok (.setEnvMod 0x3E800000#32) ∧
      decode 0x1443480000#40 = .ok (.setDecay 0x43480000#32) ∧
      decode 0x153F333333#40 = .ok (.setAccent 0x3F333333#32) ∧
      decode 0x1642700000#40 = .ok (.setSlideTime 0x42700000#32) ∧
      decode 0x173F000000#40 = .ok (.setDistortion 0x3F000000#32) ∧
      decode 0x1842F00000#40 = .ok (.setTempo 0x42F00000#32) := by decide

/-- Format F, the volumes, words of R275 to R279. -/
theorem test_decode_volumes :
    decode 0x203F800000#40 = .ok (.setSynthVolume 0x3F800000#32) ∧
      decode 0x2100000000#40 = .ok (.setDrumVolume 0x00000000#32) ∧
      decode 0x223F4CCCCD#40 = .ok (.setKickVolume 0x3F4CCCCD#32) ∧
      decode 0x2340000000#40 = .ok (.setSnareVolume 0x40000000#32) ∧
      decode 0x24BF000000#40 = .ok (.setHihatVolume 0xBF000000#32) := by decide

/-- Format P, each field alone (R86), and the example of R96. -/
theorem test_decode_format_p :
    decode 0x300000000F#40 = .ok (.setSynthStep 15#8 0#8 false false false) ∧
      decode 0x300000C800#40 = .ok (.setSynthStep 0#8 200#8 false false false) ∧
      decode 0x3000010000#40 = .ok (.setSynthStep 0#8 0#8 true false false) ∧
      decode 0x3000020000#40 = .ok (.setSynthStep 0#8 0#8 false true false) ∧
      decode 0x3000040000#40 = .ok (.setSynthStep 0#8 0#8 false false true) ∧
      decode 0x3000063001#40 = .ok (.setSynthStep 1#8 48#8 false true true) := by decide

/-- Format Q, each field alone (R87), and the example of R96. -/
theorem test_decode_format_q :
    decode 0x3100000100#40 = .ok (.setDrumStep 0#8 true false false false) ∧
      decode 0x3100000200#40 = .ok (.setDrumStep 0#8 false true false false) ∧
      decode 0x3100000400#40 = .ok (.setDrumStep 0#8 false false true false) ∧
      decode 0x3100000800#40 = .ok (.setDrumStep 0#8 false false false true) ∧
      decode 0x3100000304#40 = .ok (.setDrumStep 4#8 true true false false) := by decide

/-- Format R. -/
theorem test_decode_format_r :
    decode 0x4000000000#40 = .ok .getSynthStep ∧ decode 0x4100000000#40 = .ok .getDrumStep ∧
      decode 0x4200000000#40 = .ok .synthStepChanged ∧ decode 0x4300000000#40 = .ok .drumStepChanged := by
  decide

/-- Reserved by opcode and by a stray bit, named apart; the opcode is looked at first (R297). -/
theorem test_decode_reserved :
    decode 0x0000000000#40 = .error (.opcode 0x00#8) ∧
      decode 0x3000080010#40 = .error (.zeroBits 0x30#8 0x00080000#32) := by decide

/-- The encoder on examples of R96. -/
theorem test_encode :
    encode (.noteOn 48#8 true true) = 0x0200000330#40 ∧
      encode (.setSynthStep 1#8 48#8 false true true) = 0x3000063001#40 ∧
      encode (.setDrumStep 4#8 true true false false) = 0x3100000304#40 := by decide

/-- The host's view of the table and of a fetched word. -/
theorem test_table_word :
    decodeTableWord 40 0x11447A0000 = some (.setCutoff 0x447A0000#32) ∧ decodeTableWord 40 0 = none := by
  decide

/-- The very next step performs the placed word (R96's `SET_SYNTH_STEP` example). -/
theorem test_step_runs_placed_word :
    (match step (State.reset.withFetchWord 40 0x3000063001) with
      | .next t => t.readSynthStep 1#4
      | _ => emptySynthStep) = ⟨48#7, false, true, true⟩ := by decide +kernel

/-- Text to words (R96), with a comment, a blank line, `saw`, a hexadecimal integer and `1e-5`. -/
theorem test_assemble :
    assemble [] "NOTE_ON 45, 0, 0 # a note\n\nSET_WAVEFORM saw\nSET_SYNTH_STEP 0x1, 48, 0, 1, 1\nSET_CUTOFF 1000.0\nSET_DISTORTION 1e-5\nPROCESS 2\nNOP" =
      some [0x020000002D#40, 0x1000000000#40, 0x3000063001#40, 0x11447A0000#40, 0x173727C5AC#40,
        0x0100000000#40, 0x0100000000#40, 0x0000000000#40] := by decide +kernel

/-! ### Arithmetic (R8, R11) -/

/-- The constants of R11. -/
theorem test_constants :
    F32.fl false 45 2 = constCutoffRatio ∧ F32.fl false 6283185307179586 15 = constTwoPi ∧
      F32.fl false 1 5 = 0x3727C5AC#32 ∧ F32.fl false 1 2 = 0x3C23D70A#32 ∧
      F32.fl false 5 1 = constHalf := by decide +kernel

/-- Ties to even at `2^24 + 1` and `2^24 + 3`, and the overflow of the greatest finite value doubled. -/
theorem test_round_to_even :
    F32.add 0x4B800000#32 0x3F800000#32 = 0x4B800000#32 ∧
      F32.add 0x4B800001#32 0x3F800000#32 = 0x4B800002#32 ∧
      F32.mul 0x7F7FFFFF#32 0x40000000#32 = 0x7F800000#32 ∧
      F32.mul 0x00000001#32 0x3F000000#32 = 0x00000000#32 := by decide +kernel

/-- EXP and TANH correctly rounded: `e^(-1/4410)` (R158) and the bracket of `tanh 1` (R187). -/
theorem test_exp_tanh :
    correctlyRounded.exp (F32.div 0xBF800000#32 0x4589D000#32) = 0x3F7FF124#32 ∧
      F32.tanhLo (F32.scaled F32.oneMag) = 0x3F42F7D5 ∧ F32.tanhHi (F32.scaled F32.oneMag) = 0x3F42F7D6 := by
  decide +kernel

/-! ### Units (95_test_vectors.md section 2) -/

/-- 2.1, rows 3 and 4: just after the wrap, saw and square. -/
theorem test_osc_after_wrap :
    oscStep correctlyRounded (defaultTuning defaultSampleRate) .corrected .saw 0x3F7FBE77#32 0x42DC8000#32
        = (0x3AC49C00#32, 0xBF5645DA#32) ∧
      oscStep correctlyRounded (defaultTuning defaultSampleRate) .corrected .square 0x3F7FBE77#32
        0x42DC8000#32 = (0x3AC49C00#32, 0x3F570A76#32) := by decide +kernel

/-- 2.1: the square around its falling edge, with the corrected and with D0's literal signs. -/
theorem test_osc_falling_edge :
    oscStep correctlyRounded (defaultTuning defaultSampleRate) .corrected .square 0x3EFF7CEE#32
        0x42DC8000#32 = (0x3F00624E#32, 0xBF570A76#32) ∧
      (oscStep correctlyRounded (defaultTuning defaultSampleRate) .literal .square 0x3EFF7CEE#32
        0x42DC8000#32).2 = 0xBF947AC5#32 := by decide +kernel

/-- 2.2, row 3: feedback from a non-zero `y3`. -/
theorem test_vcf_feedback :
    filterStep correctlyRounded (defaultTuning defaultSampleRate)
      ⟨0x43FA0000#32, 0x3F800000#32, 0x3F800000#32, 0x00000000#32⟩ 0xBF800000#32 0x3F000000#32
      ⟨0x3F000000#32, 0x3E800000#32, 0x3E000000#32⟩ =
      ⟨0xBEE40A92#32, 0xBDA211FC#32, 0x3CE87E88#32⟩ := by decide +kernel

/-- R137: a stage that overflows to an infinity resets all three (a case of 2.2's rows 6 and 7 that
passes through no NaN, whose bits are free). -/
theorem test_vcf_defensive_reset :
    filterStep correctlyRounded (defaultTuning defaultSampleRate)
      ⟨0x447A0000#32, 0x3F000000#32, 0x3F000000#32, 0x00000000#32⟩ 0xFF7FFFFF#32 0x00000000#32
      ⟨0x7F7FFFFF#32, 0x00000000#32, 0x00000000#32⟩ = ⟨0#32, 0#32, 0#32⟩ := by decide +kernel

/-- 2.3: the second step after a trigger; a product at the floor is kept, below it is zero. -/
theorem test_env_step :
    envelopeStep correctlyRounded (defaultTuning defaultSampleRate) 0x3F7FF124#32 0x3F7FF124#32
        = 0x3F7FE249#32 ∧
      envelopeStep correctlyRounded (defaultTuning defaultSampleRate) 0x3727C5AC#32 0x3F800000#32
        = 0x3727C5AC#32 ∧
      envelopeStep correctlyRounded (defaultTuning defaultSampleRate) 0x3727C5AC#32 0x3F7FF124#32
        = 0x00000000#32 := by decide +kernel

/-- 2.4: the first step of 36 to 48 at 60 ms; the strict threshold of `SLD.note`. -/
theorem test_slide :
    slideStep correctlyRounded (defaultTuning defaultSampleRate) 0x42700000#32 0x4282D013#32 0x4302D013#32
        = 0x4282DCBA#32 ∧
      glides correctlyRounded (defaultTuning defaultSampleRate) true 0x3C23D70A#32 = false ∧
      glides correctlyRounded (defaultTuning defaultSampleRate) true 0x3C23D70B#32 = true := by
  decide +kernel

/-- 2.5: `d = 0.5`, `x = 0.1`, and `d = 0`. -/
theorem test_dst :
    distort correctlyRounded 0x3F000000#32 0x3DCCCCCD#32 = 0x3E99BCCA#32 ∧
      distort correctlyRounded 0x00000000#32 0x40000000#32 = 0x40000000#32 := by decide +kernel

/-- R281 (e): the mix of the first `TICK` with three drum samples. -/
theorem test_mix :
    mixOut correctlyRounded defaultResetCfg 0xBE06B2BE#32 ⟨0x3F4CCCCD#32, 0xBE99999A#32, 0x3DCCCCCD#32⟩
      = 0x3DAC8075#32 := by decide +kernel

/-! ### Commands, each from a small state -/

/-- The reset state with other sequencer registers. -/
def withSeq (q : SeqRegs F32) : State := State.reset.onEngine fun e => e.setSeq q

/-- The sample of a `TICK` with silent drums, EXP and TANH correctly rounded. -/
def tickSample (e : EngineState F32) : F32 :=
  (tickWith correctlyRounded (fun _ => ⟨0#32, 0#32, 0#32⟩) e).out

/-- R201 (a): a note and its first `TICK`. -/
theorem test_note_and_tick :
    tickSample (noteOnWith correctlyRounded 45#8 false false State.reset.toEngineState) = 0xBD86B2BE#32 :=
  by decide +kernel

/-- R201 (b): the accented note. -/
theorem test_accented_note_and_tick :
    tickSample (noteOnWith correctlyRounded 45#8 true false State.reset.toEngineState) = 0xBE3FE5B6#32 := by
  decide +kernel

/-- R201 (c): the slid note drops its accent and moves the target alone. -/
theorem test_note_on_glides :
    (noteOnWith correctlyRounded 48#8 true true
        (noteOnWith correctlyRounded 45#8 false false State.reset.toEngineState)).voice =
      { resetVoice correctlyRounded with
        freqCurrent := 0x42DC0000#32, freqTarget := 0x4302D013#32, gate := true,
        envValue := 0x3F800000#32, decayCoef := 0x3F7FF124#32 } := by decide +kernel

/-- R201 (d), program D: a note above 127 acts as 127; accented, 10 ms: `decay_coef`. -/
theorem test_note_on_clamps :
    (noteOnWith correctlyRounded 255#8 true true
        (afterCommand (.setDecay 0#32) State.reset).toEngineState).voice =
      { resetVoice correctlyRounded with
        freqCurrent := 0x4643FF6A#32, freqTarget := 0x4643FF6A#32, gate := true,
        envValue := 0x3F800000#32, decayCoef := 0x3F7ED775#32, accentLevel := 0x3F000000#32 } := by
  decide +kernel

/-- R197. -/
theorem test_note_off :
    (afterCommand .noteOff (State.reset.onEngine fun e => e.setVoice (setGate true e.voice))).voice =
      resetVoice correctlyRounded := by
  decide +kernel

/-- R239 at 200 BPM (program C): both counts 3307.5. -/
theorem test_start :
    (afterCommand .start (afterCommand (.setTempo 0x43480000#32) State.reset)).seq =
      { running := true, currentStep := 0x1F#5, samplesPerStep := 0x454EB800#32,
        samplesIntoStep := 0x454EB800#32, synthStepChanged := false, drumStepChanged := false } := by
  decide +kernel

/-- R240: the counts and the flags stay. -/
theorem test_stop :
    (afterCommand .stop
        (withSeq ⟨true, 3#5, 0x45AC4400#32, 0x3F800000#32, true, false⟩)).seq =
      ⟨false, 0x1F#5, 0x45AC4400#32, 0x3F800000#32, true, false⟩ := by decide +kernel

/-- R211: square, and a selector of 2 ignored. -/
theorem test_set_waveform :
    (afterCommand (.setWaveform 1#32) State.reset).cr.waveform = .square ∧
      (afterCommand (.setWaveform 2#32) State.reset).cr.waveform = .saw := by decide +kernel

/-- R212: above, below, NaN. -/
theorem test_set_cutoff :
    (afterCommand (.setCutoff 0x47435000#32) State.reset).cr.cutoffHz = 0x469C4000#32 ∧
      (afterCommand (.setCutoff 0x40A00000#32) State.reset).cr.cutoffHz = 0x41A00000#32 ∧
      (afterCommand (.setCutoff 0x7FC00000#32) State.reset).cr.cutoffHz = 0x447A0000#32 := by
  decide +kernel

/-- R213: -1 stores `+0.0`, 1.5 stores 1. -/
theorem test_set_resonance :
    (afterCommand (.setResonance 0xBF800000#32) State.reset).cr.resonance = 0x00000000#32 ∧
      (afterCommand (.setResonance 0x3FC00000#32) State.reset).cr.resonance = 0x3F800000#32 := by
  decide +kernel

/-- R214, R210: in range stored bit for bit, a subnormal too; `-0.0` stores `+0.0`. -/
theorem test_set_env_mod :
    (afterCommand (.setEnvMod 0x00000001#32) State.reset).cr.envMod = 0x00000001#32 ∧
      (afterCommand (.setEnvMod 0x80000000#32) State.reset).cr.envMod = 0x00000000#32 := by
  decide +kernel

/-- R215: 0 stores 10, `+inf` stores 2000. -/
theorem test_set_decay :
    (afterCommand (.setDecay 0x00000000#32) State.reset).cr.decayMs = 0x41200000#32 ∧
      (afterCommand (.setDecay 0x7F800000#32) State.reset).cr.decayMs = 0x44FA0000#32 := by decide +kernel

/-- R216. -/
theorem test_set_accent :
    (afterCommand (.setAccent 0x3F333333#32) State.reset).cr.accentAmount = 0x3F333333#32 := by
  decide +kernel

/-- R217: 500 stores 200; `-inf` stores 10 (program D). -/
theorem test_set_slide_time :
    (afterCommand (.setSlideTime 0x43FA0000#32) State.reset).cr.slideTimeMs = 0x43480000#32 ∧
      (afterCommand (.setSlideTime 0xFF800000#32) State.reset).cr.slideTimeMs = 0x41200000#32 := by
  decide +kernel

/-- R218. -/
theorem test_set_distortion :
    (afterCommand (.setDistortion 0x3F000000#32) State.reset).cr.distortion = 0x3F000000#32 := by
  decide +kernel

/-- R241: 300 stores 200, 30 stores 60; the running length stays (R250). -/
theorem test_set_tempo :
    (afterCommand (.setTempo 0x43960000#32) State.reset).cr.tempoBpm = 0x43480000#32 ∧
      (afterCommand (.setTempo 0x41F00000#32) State.reset).cr.tempoBpm = 0x42700000#32 ∧
      (afterCommand (.setTempo 0x41F00000#32) State.reset).seq = State.reset.seq := by decide +kernel

/-- R275, R276: each its own register. -/
theorem test_set_synth_and_drum_volume :
    (afterCommand (.setSynthVolume 0x3F800000#32) State.reset).cr =
        { defaultResetCfg with synthGain := 0x3F800000#32 } ∧
      (afterCommand (.setDrumVolume 0x00000000#32) State.reset).cr =
        { defaultResetCfg with drumMasterGain := 0x00000000#32 } := by decide +kernel

/-- R277, R278, R279: each its own register. -/
theorem test_set_drum_gains :
    (afterCommand (.setKickVolume 0x3F4CCCCD#32) State.reset).cr =
        { defaultResetCfg with kickGain := 0x3F4CCCCD#32 } ∧
      (afterCommand (.setSnareVolume 0x40000000#32) State.reset).cr =
        { defaultResetCfg with snareGain := 0x3F800000#32 } ∧
      (afterCommand (.setHihatVolume 0xBF000000#32) State.reset).cr =
        { defaultResetCfg with hihatGain := 0x00000000#32 } := by decide +kernel

/-- R242, program D: index 15 with note 200 stores 127. -/
theorem test_set_synth_step :
    (afterCommand (.setSynthStep 15#8 200#8 true true true) State.reset).readSynthStep 15#4 =
      ⟨127#7, true, true, true⟩ := by decide +kernel

/-- R242, R293: index 16 is not reduced to 0. -/
theorem test_set_synth_step_index_error :
    afterCommand (.setSynthStep 16#8 45#8 false false true) State.reset = State.reset := by decide +kernel

/-- R243: the four tracks, and index 255. -/
theorem test_set_drum_step :
    (afterCommand (.setDrumStep 4#8 true true false false) State.reset).readDrumStep 4#4 =
        ⟨true, true, false, false⟩ ∧
      afterCommand (.setDrumStep 255#8 true true true true) State.reset = State.reset := by decide +kernel

/-- R244, R245: -1 when stopped; 15 as itself. -/
theorem test_get_steps :
    (afterCommand .getSynthStep State.reset).resp = 0xFFFFFFFF#32 ∧
      (afterCommand .getDrumStep
        (withSeq { State.reset.seq with currentStep := 15#5 })).resp = 0x0000000F#32 := by
  decide +kernel

/-- R246, R247: the flag as 1, then cleared, the other kept. -/
theorem test_changed_reads :
    (afterCommand .synthStepChanged (withSeq (markStepChanged State.reset.seq))).resp = 1#32 ∧
      (afterCommand .drumStepChanged (withSeq (markStepChanged State.reset.seq))).seq =
        { State.reset.seq with synthStepChanged := true } := by decide +kernel

/-- Program C, `TICK` 0 in short: step 0 is dispatched with its drum bits (R248). -/
theorem test_tick_dispatches_step_zero :
    (sequence correctlyRounded (afterCommand .start
      (afterCommand (.setDrumStep 0#8 true false true false) State.reset)).toEngineState).1 = 0b0101#4 := by
  decide +kernel

/-- R252: with the carry, the overshoot stays, but not at the first event. -/
theorem test_seq_carry :
    restartCount correctlyRounded true false 0x45AC4800#32 0x45AC4400#32 = 0x3F000000#32 ∧
      restartCount correctlyRounded true true 0x45AC4800#32 0x45AC4400#32 = 0x00000000#32 := by
  decide +kernel

/-- R15 (b): -1 goes to 0, 15 goes to 0, 3 goes to 4; a build of 12 steps (R5) goes from 11 to 0. -/
theorem test_next_step :
    nextStep 16 0x1F#5 = 0#4 ∧ nextStep 16 15#5 = 0#4 ∧ nextStep 16 3#5 = 4#4 ∧
      nextStep 12 11#5 = 0#4 := by decide

/-- R320, R321: reset samples the rate; 7999.9995 is refused. -/
theorem test_reset_event :
    (match resetStep State.reset 0x473B8000#32 [] with
      | .next t => t.params.tuning.sr
      | _ => 0#32) = 0x473B8000#32 ∧
      goesOn (resetStep State.reset 0x45F9FFFF#32 []) = false := by
  decide +kernel

/-! ### The hypotheses of the statements can be met -/

/-- A state with drum samples waiting. -/
def withDrums (ds : List (DrumSamples F32)) : State := { State.reset with drumIn := ds }

theorem test_meets_StepRunsTheDecodedCommand :
    (State.reset.withFetchWord 40 0x020000002D).port = .command 0x020000002D#40 :: [] ∧
      decode 0x020000002D#40 = .ok (.noteOn 45#8 false false) := by decide

theorem test_meets_IdleStepHoldsTheState : State.reset.port = [] := by decide

/-- A reserved opcode and a stray bit. -/
theorem test_meets_ReservedWordIsIgnored :
    (State.reset.withFetchWord 40 0).port = .command 0x0000000000#40 :: [] ∧
      (∀ r ∈ opcodeRows, r.matches 0x0000000000#40 = false) ∧
      ∀ r ∈ opcodeRows, r.matches 0x3000080000#40 = false := by decide

theorem test_meets_EveryCommandWordCompletes : resetRefused State.reset = false := by decide

/-- Both ends of the admitted range, and the nearest values outside it. -/
theorem test_meets_ResetGivesTheResetState :
    ({ State.reset with port := [.reset minSampleRate] } : State).port = .reset minSampleRate :: [] ∧
      sampleRateAdmitted 0x45FA0000#32 = true ∧ sampleRateAdmitted 0x483B8000#32 = true ∧
      sampleRateAdmitted 0x45F9FFFF#32 = false ∧ sampleRateAdmitted 0x483B8001#32 = false ∧
      sampleRateAdmitted 0x7FC00000#32 = false := by decide +kernel

theorem test_meets_DecodeAndEncodeAreInverse : decode 0x0100000000#40 = .ok .tick := by decide

theorem test_meets_DecoderFollowsTheOpcodeTable :
    decode 0x43 = .error (.opcode 0#8) ∧ decode 0x4300000000#40 = .ok .drumStepChanged := by decide

/-- A preset for the tests. -/
def onePreset : Preset :=
  ⟨"one", 0x42F00000#32, ⟨0#32, 0#32, 0#32, 0#32, 0#32, 0#32, 0#32, 0#32⟩,
    Vector.replicate 16 ⟨45#8, false, false, true⟩⟩

/-- An index at the count, and the last index below it. -/
theorem test_meets_PresetLoadIsABurstOfSetters :
    [onePreset].length ≤ 1 ∧ [onePreset][0]? = some onePreset := ⟨by decide, rfl⟩

theorem test_meets_GroupsAreWrittenOnlyByTheirCommands :
    Instr.start.mnemonic ∉ ["NOTE_ON", "NOTE_OFF", "STOP", "TICK"] ∧ Instr.start.mnemonic ≠ "TICK" ∧
      Instr.tick.mnemonic ∉ ["GET_SYNTH_STEP", "GET_DRUM_STEP", "SYNTH_STEP_CHANGED", "DRUM_STEP_CHANGED"] := by
  decide

/-- A `TICK` with a step event and one without. -/
theorem test_meets_FlagsFollowTheirTable :
    stepEvent .tick (afterCommand .start State.reset) = some 0#4 ∧ stepEvent .tick State.reset = none ∧
      stepEvent .start State.reset = none := by decide +kernel

/-- Each clause: a NaN, just below `lo`, just above `hi`, `-0.0`, and the bounds themselves. -/
theorem test_meets_FloatSettersClampAndStore :
    (Instr.setCutoff 0x41A00000#32, FloatReg.cutoffHz, 0x41A00000#32, 0x469C4000#32) ∈
        floatSetters 0x41A00000#32 ∧
      (afterCommand (.setCutoff 0x419FFFFF#32) State.reset).cr.cutoffHz = 0x41A00000#32 ∧
      (afterCommand (.setCutoff 0x41A00000#32) State.reset).cr.cutoffHz = 0x41A00000#32 ∧
      (afterCommand (.setCutoff 0x469C4000#32) State.reset).cr.cutoffHz = 0x469C4000#32 ∧
      (afterCommand (.setCutoff 0x469C4001#32) State.reset).cr.cutoffHz = 0x469C4000#32 := by
  decide +kernel

theorem test_meets_SetWaveformSelectsOrIgnores :
    (0#32).toNat = 0 ∧ (1#32).toNat = 1 ∧ 2 ≤ (2#32).toNat ∧ 2 ≤ (0xFFFFFFFF#32).toNat := by decide

/-- Both paths of `NOTE_ON`, the threshold itself on the retrigger side (95_test_vectors.md 2.4). -/
theorem test_meets_NoteOnGlidesOrRetriggers :
    F32.lt defaultParams.tuning.slideThreshold 0x3C23D70B#32 = true ∧
      F32.lt defaultParams.tuning.slideThreshold 0x3C23D70A#32 = false := by decide +kernel

theorem test_meets_StartRewindsAndTheNextTickPlaysStepZero :
    F32.isNaN (F32.div (F32.mul State.reset.params.tuning.sr 0x42700000#32)
      (F32.mul State.reset.cr.tempoBpm (F32.ofNat State.reset.params.stepsPerBeat))) = false := by decide +kernel

theorem test_meets_StopReleasesAndRewinds :
    seqOk State.reset.seq = true ∧ State.reset.seq.running = false := by decide +kernel

/-- The last legal index and the first illegal one. -/
theorem test_meets_SetSynthStepWritesOneWholeEntry :
    (15#8).toNat < 16 ∧ 16 ≤ (16#8).toNat := by decide

theorem test_meets_SetDrumStepWritesOneWholeEntry :
    (0#8).toNat < 16 ∧ 16 ≤ (255#8).toNat := by decide

/-- In a build of 12 steps (R5) step 0 follows step 11 (R238). -/
theorem test_steps_parameter :
    nextStep (Params.steps { defaultParams with lastStep := 11 }) 11#5 = 0#4 ∧
      nextStep defaultParams.steps 11#5 = 12#4 := by decide +kernel

/-- `STEPS_PER_BEAT` of 2 doubles the step of 5512.5 samples (R237). -/
theorem test_steps_per_beat :
    stepLength correctlyRounded 2 defaultSampleRate 0x42F00000#32 = 0x462C4400#32 := by decide +kernel

theorem test_meets_StepReadsReturnTheStep :
    seqOk State.reset.seq = true ∧ State.reset.seq.running = false ∧
      seqOk { State.reset.seq with running := true, currentStep := 15#5 } = true ∧
      Instr.tick ∉ [Instr.setTempo 0x42F00000#32] ∧ stateOk State.reset = true ∧
      Instr.tick ∈ [Instr.noteOff, Instr.tick] ∧ Instr.start ∉ [Instr.noteOff, Instr.tick] ∧
      Instr.stop ∉ [Instr.noteOff, Instr.tick] := by decide +kernel

theorem test_meets_ChangedReadsClearTheirOwnFlag :
    Instr.synthStepChanged ∉ [Instr.tick, Instr.drumStepChanged] ∧
      Instr.drumStepChanged ∉ [Instr.tick, Instr.synthStepChanged] := by decide

/-- Stopped; running one sample into a step; and with drum samples at the ports. -/
theorem test_meets_TickWithoutStepEventOnlyCounts :
    State.reset.seq.running = false ∧
      F32.le 0x45AC4400#32 (F32.add 0x00000000#32 0x3F800000#32) = false ∧
      ({ State.reset with drumIn := [⟨0x3F000000#32, 0#32, 0#32⟩] } : State).drumIn =
        ⟨0x3F000000#32, 0#32, 0#32⟩ :: [] := by decide +kernel

/-- Just after `START`; the count that first reaches 5512.5 is 5513. -/
theorem test_meets_TickWithStepEventAdvancesAndDispatches :
    (afterCommand .start State.reset).seq.running = true ∧
      F32.le (afterCommand .start State.reset).seq.samplesPerStep
        (F32.add (afterCommand .start State.reset).seq.samplesIntoStep 0x3F800000#32) = true ∧
      F32.le 0x45AC4400#32 (F32.add 0x45AC4000#32 0x3F800000#32) = true ∧
      F32.le 0x45AC4400#32 (F32.add 0x45AC3800#32 0x3F800000#32) = false := by decide +kernel

theorem test_meets_ZeroGainsSilenceTheOutput :
    isZero ({ defaultResetCfg with synthGain := 0#32, drumMasterGain := 0#32 } : ConfigRegs F32).synthGain
        = true ∧
      isZero
        ({ defaultResetCfg with synthGain := 0#32, drumMasterGain := 0#32 } : ConfigRegs F32).drumMasterGain
        = true := by decide

theorem test_meets_IdleVoiceIsSilent :
    stateOk (withDrums [⟨0#32, 0#32, 0#32⟩]) = true ∧
      (withDrums [⟨0#32, 0#32, 0#32⟩]).seq.running = false ∧
      isZero (withDrums [⟨0#32, 0#32, 0#32⟩]).voice.envValue = true ∧
      (withDrums [⟨0#32, 0#32, 0#32⟩]).drumIn = List.replicate 1 ⟨0#32, 0#32, 0#32⟩ ++ [] ∧
      [Instr.setWaveform 1#32, .tick].count .tick ≤ 1 ∧
      ∀ i ∈ [Instr.setWaveform 1#32, .tick], i.mnemonic ≠ "NOTE_ON" ∧ i.mnemonic ≠ "START" := by
  decide +kernel

/-- The invariant's premises together, with a step that goes on: a command and a reset. -/
theorem test_meets_StateInvariantKeptByEveryStep :
    stateOk State.reset = true ∧ goesOn (step (State.reset.withFetchWord 40 0x0400000000)) = true ∧
      goesOn (step { State.reset with port := [.reset maxSampleRate] }) = true ∧
      stateOk { State.reset with port := [.reset maxSampleRate] } = true := by decide +kernel

theorem test_meets_ConfigurationStaysLegal :
    configOk State.reset.cr = true ∧ configOk State.reset.params.resetCfg = true ∧
      goesOn (step State.reset) = true := by decide +kernel

theorem test_meets_SequencerStaysLegal :
    seqOk State.reset.seq = true ∧ goesOn (step State.reset) = true := by decide +kernel

/-- The two ways of a step event that triggers nothing: an inactive step just after `START`, and a step
with `slide` set while the level is above the threshold. -/
theorem test_meets_EnvelopeFallsBetweenTriggers :
    inUnit 0x3F800000#32 = true ∧ inUnit 0x00000000#32 = true ∧ inUnit State.reset.voice.envValue = true ∧
      inUnit State.reset.voice.decayCoef = true ∧ stepEvent .tick State.reset = none ∧
      stepEvent .tick (afterCommand .start State.reset) = some 0#4 ∧
      ((afterCommand .start State.reset).readSynthStep 0#4).active = false ∧
      ((afterCommand (.setSynthStep 0#8 45#8 false true true) State.reset).readSynthStep 0#4).slide = true ∧
      F32.lt State.reset.params.tuning.slideThreshold 0x3F800000#32 = true := by decide +kernel

/-- The greatest phase, the greatest note, the least and the greatest sample rate. -/
theorem test_meets_PhaseStaysInTheUnitInterval :
    phaseOk 0x3F7FFFFF#32 = true ∧ phaseOk 0x00000000#32 = true ∧ F32.isFinite 0x4643FF6A#32 = true ∧
      F32.le 0x00000000#32 0x4643FF6A#32 = true ∧ sampleRateAdmitted 0x45FA0000#32 = true := by
  decide +kernel

theorem test_meets_GlideCoefficientIsSmall :
    sampleRateAdmitted 0x45FA0000#32 = true ∧ F32.le 0x41200000#32 0x41200000#32 = true ∧
      F32.le 0x43480000#32 0x43480000#32 = true ∧ F32.le 0x41200000#32 0x43480000#32 = true := by
  decide +kernel

/-- Both directions, at the ends of the note range. -/
theorem test_meets_GlideStaysBetweenItsEnds :
    sampleRateAdmitted 0x483B8000#32 = true ∧ F32.le 0x41200000#32 0x42700000#32 = true ∧
      F32.le 0x42700000#32 0x43480000#32 = true ∧ inNoteRange 0x4102D013#32 = true ∧
      inNoteRange 0x4643FF6A#32 = true ∧ F32.le 0x4102D013#32 0x4643FF6A#32 = true := by decide +kernel

theorem test_meets_CutoffStaysWithinItsBounds : sampleRateAdmitted 0x45FA0000#32 = true := by
  decide +kernel

theorem test_meets_DistortionInBinary32 :
    inUnit 0x3F800000#32 = true ∧ inUnit 0x00000000#32 = true ∧ F32.sign 0x00000000#32 = false ∧
      F32.isFinite 0x7F7FFFFF#32 = true := by decide +kernel

theorem toReal_one : F32.toReal 0x3F800000#32 = 1 := by
  have h : F32.toInt 0x3F800000#32 = 2 ^ 149 := by decide +kernel
  unfold F32.toReal
  rw [h]
  norm_num

theorem test_meets_ArithmeticRoundsToNearestEven :
    F32.isFinite 0x7F7FFFFF#32 = true ∧ F32.isFinite 0x3F800000#32 = true ∧
      F32.toReal 0x3F800000#32 ≠ 0 := by
  refine ⟨by decide, by decide, ?_⟩
  rw [toReal_one]
  norm_num

/-- A zero, the least subnormal below it, and the most negative finite value. -/
theorem test_meets_ExpIsOneAtZeroAndInRange :
    F32.isFinite 0x80000001#32 = true ∧ F32.le 0x80000001#32 0x00000000#32 = true ∧
      F32.isFinite 0xFF7FFFFF#32 = true ∧ F32.le 0xFF7FFFFF#32 0x00000000#32 = true := by decide +kernel

theorem test_meets_ExpIsFaithfulAndMonotone :
    F32.isFinite 0xBF800000#32 = true ∧ F32.lt 0xBF800000#32 0x00000000#32 = true ∧
      F32.isFinite 0x80000000#32 = true ∧ F32.le 0xBF800000#32 0x80000000#32 = true ∧
      F32.le 0x80000000#32 0x00000000#32 = true := by decide +kernel

theorem test_meets_TanhIsOddAndInRange :
    F32.isNaN 0xFFC00001#32 = true ∧ F32.isNaN 0x3F800000#32 = false ∧ F32.isNaN 0xFF800000#32 = false := by
  decide

theorem test_meets_TanhIsFaithfulAndMonotone :
    F32.isFinite 0x00000001#32 = true ∧ F32.lt 0x00000000#32 0x00000001#32 = true ∧
      F32.le 0xFF800000#32 0x7F800000#32 = true := by decide +kernel

theorem test_meets_NoteTableIsNearestToTheFormula : F32.isFinite 0x43DC0001#32 = true := by decide

/-- The corners of the range: 8000 at 200 BPM gives 600, 192000 at 60 BPM gives 48000. -/
theorem test_meets_StepLengthLiesBetween600And48000 :
    sampleRateAdmitted 0x45FA0000#32 = true ∧ F32.le 0x42700000#32 0x43480000#32 = true ∧
      F32.le 0x43480000#32 0x43480000#32 = true ∧
      stepLength hardware 4 0x45FA0000#32 0x43480000#32 = 0x44160000#32 ∧
      stepLength hardware 4 0x483B8000#32 0x42700000#32 = 0x473B8000#32 := by decide +kernel

theorem test_meets_StepsFallOnMultiplesOfTheirLength :
    sampleRateAdmitted State.reset.params.tuning.sr = true ∧
      F32.le 0x42700000#32 State.reset.cr.tempoBpm = true ∧
      F32.le State.reset.cr.tempoBpm 0x43480000#32 = true ∧ State.reset.params.seqCarry = false ∧
      State.reset.params.stepsPerBeat = 4 := by decide +kernel

/-- A `TICK` that dispatches step 0 while step 1 is written, and one that dispatches none. -/
theorem test_meets_StepWritesAreIsolated :
    (∀ k, stepEvent .tick (afterCommand .start State.reset) = some k → k.toNat ≠ (1#8).toNat) ∧
      ∀ k, stepEvent .tick State.reset = some k → k.toNat ≠ (0#8).toNat := by decide +kernel

theorem test_meets_LatchedSettersLeaveTheNoteInFlight :
    stepEvent .tick State.reset = none ∧
      Instr.setDecay 0#32 ∈ [Instr.setTempo 0#32, Instr.setDecay 0#32, Instr.setAccent 0#32] := by
  decide +kernel

theorem test_meets_OutputsAreDeterministic :
    [Instr.tick, .getSynthStep].count .tick ≤ (withDrums [⟨0#32, 0#32, 0#32⟩]).drumIn.length := by decide

/-- Both windows and the part between them, at their ends. -/
theorem test_meets_PolyBlepOverTheReals :
    ((0 : ℝ) ≤ 0 ∧ (0 : ℝ) < 1 ∧ (0 : ℝ) ≤ 1 / 4 ∧ (0 : ℝ) < 1 / 4) ∧
      ((1 / 4 : ℝ) ≤ 1 / 4 ∧ (1 / 4 : ℝ) ≤ 1 - 1 / 4) ∧
      ((1 / 4 : ℝ) ≤ 7 / 8 ∧ 1 - 1 / 4 < (7 / 8 : ℝ) ∧ (7 / 8 : ℝ) ≤ 15 / 16 ∧ (15 / 16 : ℝ) < 1) := by
  norm_num

theorem test_meets_OscillatorRangeOverTheReals :
    (0 : ℝ) ≤ 1 / 2 ∧ (1 / 2 : ℝ) < 1 ∧ (1 / 2 : ℝ) ≤ 1 / 2 ∧ (0 : ℝ) < 1 / 4 := by norm_num

/-- The constants of the default build over the reals. -/
noncomputable def realTuning : Tuning ℝ := ⟨44100, 8000, 1, 1 / 2, 1, 1, 3, 1 / 100, 1 / 100000, 1 / 100⟩

theorem test_meets_FilterIsBoundedOverTheReals :
    8000 ≤ realTuning.sr ∧ (0 : ℝ) ≤ 1 ∧ realTuning.fbScaleBase = 1 ∧ realTuning.fbScaleSlope = 3 ∧
      (∀ r c : ℝ, 0 ≤ r → r ≤ 1 → 0 ≤ (fun r _ : ℝ => 1 + 3 * r) r c ∧ (fun r _ : ℝ => 1 + 3 * r) r c ≤ 4) ∧
      ∀ x ∈ [((⟨1000, 1, 1 / 2, 0⟩, -1, 1) : FilterControls ℝ × ℝ × ℝ)],
        0 ≤ x.1.resonance ∧ x.1.resonance ≤ 1 ∧ |x.2.1| ≤ 1 := by
  refine ⟨by norm_num [realTuning], by norm_num, rfl, rfl, ?_, ?_⟩
  · intro r c h0 h1
    constructor <;> simp only <;> linarith
  · simp

/-- One note at 44100 with a 100 ms decay, one render later: `exp(-1/4410)` is above the floor. -/
theorem test_meets_GlideAndEnvelopeAreExponentialOverTheReals :
    (0 : ℝ) < 100 * realTuning.sr / 1000 ∧
      realTuning.envFloor ≤ Real.exp (-((1 : ℕ) : ℝ) / (100 * realTuning.sr / 1000)) := by
  refine ⟨by norm_num [realTuning], ?_⟩
  have h := Real.add_one_le_exp (-((1 : ℕ) : ℝ) / (100 * realTuning.sr / 1000))
  exact le_trans (by norm_num [realTuning]) h

/-- The scale law of the default build, and a build with another one. -/
theorem test_meets_UnitFormulasInBinary32 :
    defaultParams.fbLaw = none ∧ defaultParams.tuning = defaultTuning defaultSampleRate := by decide

/-- The whole `TICK` read over the reals (R7): its sample is in `[-1, 1]`, whatever the state. -/
theorem test_tick_over_the_reals (oracle : DrumOracle ℝ) (e : EngineState ℝ) :
    -1 ≤ (tickWith realNum oracle e).out ∧ (tickWith realNum oracle e).out ≤ 1 := by
  have key : ∀ x : ℝ, -1 ≤ mixLimit realNum x ∧ mixLimit realNum x ≤ 1 := by
    intro x
    simp only [mixLimit, NumSys.clamp, NumSys.min, NumSys.max, NumSys.one, realNum]
    simp only [Bool.false_eq_true, if_false, Nat.cast_one, decide_eq_true_eq]
    split_ifs <;> constructor <;> linarith
  exact key _

/-- The other commands read over the reals (R7): the step length at the reset of the default build, and a
setter's clamp. -/
theorem test_start_over_the_reals (e : EngineState ℝ) (v : ℝ) :
    (startSeq realNum e).seq.samplesPerStep =
        e.params.tuning.sr * 60 / (e.cr.tempoBpm * e.params.stepsPerBeat) ∧
      (resetEngine realNum (defaultParams.map realNum.lit)).params.stepsPerBeat = 4 ∧
      ((setFloat realNum .resonance v e).cr.resonance = v ∨
        (setFloat realNum .resonance v e).cr.resonance = F32.toReal 0x00000000#32 ∨
        (setFloat realNum .resonance v e).cr.resonance = F32.toReal 0x3F800000#32) := by
  refine ⟨by simp [startSeq, stepLength, setRunning, realNum], rfl, ?_⟩
  simp only [setFloat, realNum, NumSys.clamp, NumSys.min, NumSys.max, FloatReg.lo, FloatReg.hi]
  simp only [Bool.false_eq_true, if_false, decide_eq_true_eq, EngineState.setCr_cr, writeReg]
  split_ifs <;> simp

theorem test_meets_DistortionOverTheReals :
    (0 : ℝ) ≤ 1 / 2 ∧ (1 / 2 : ℝ) ≤ 1 ∧ |(1 : ℝ)| ≤ 1 ∧ 1 < |(2 : ℝ)| ∧ (1 : ℝ) ≤ 2 := by norm_num

end Sys2Proof.Machine.Tests
end

section
/-! PROOFS. Rounding (00_scope.md R8): where a quotient stands among the binary32 magnitudes, and what the
three roundings answer there. -/

namespace Sys2Proof

/-! ### The two magnitudes around a quotient -/

/-- Magnitude bits of the greatest value not above `num/den`, before the cap at the infinity. -/
def F32.floorMag (num den : Nat) : Nat :=
  F32.spacing num den * 2 ^ 23 + num / (den * 2 ^ F32.spacing num den)

/-- `q` whole steps of a binade are `q` times its spacing, the first step of the next binade included. -/
theorem F32.scaled_steps {k q : Nat} (hq : q ≤ 2 ^ 24) (hk : 0 < k → 2 ^ 23 ≤ q) :
    F32.scaled (k * 2 ^ 23 + q) = q * 2 ^ k := by
  rcases Nat.lt_or_ge q (2 ^ 23) with hsub | hnorm
  · obtain rfl : k = 0 := by omega
    rw [Nat.zero_mul, Nat.zero_add, F32.scaled_of_lt (by omega), pow_zero, Nat.mul_one]
  · rcases hq.lt_or_eq with hlt | rfl
    · rw [show k * 2 ^ 23 + q = (k + 1) * 2 ^ 23 + (q - 2 ^ 23) by omega, F32.scaled_of_exp (by omega),
        Nat.sub_add_cancel hnorm]
    · rw [show k * 2 ^ 23 + 2 ^ 24 = (k + 1 + 1) * 2 ^ 23 + 0 by ring, F32.scaled_of_exp (by norm_num)]
      ring

theorem F32.scaled_floorMag (num den : Nat) :
    F32.scaled (F32.floorMag num den) =
      num / (den * 2 ^ F32.spacing num den) * 2 ^ F32.spacing num den :=
  F32.scaled_steps (F32.quotient_bounds num den).1.le (F32.quotient_bounds num den).2

theorem F32.scaled_floorMag_succ (num den : Nat) :
    F32.scaled (F32.floorMag num den + 1) =
      (num / (den * 2 ^ F32.spacing num den) + 1) * 2 ^ F32.spacing num den := by
  obtain ⟨hlt, hge⟩ := F32.quotient_bounds num den
  rw [F32.floorMag, Nat.add_assoc]
  exact F32.scaled_steps (Nat.succ_le_of_lt hlt) fun hk => Nat.le_succ_of_le (hge hk)

theorem F32.scaled_floorMag_mul_le (num den : Nat) : F32.scaled (F32.floorMag num den) * den ≤ num := by
  rw [F32.scaled_floorMag, Nat.mul_assoc, Nat.mul_comm _ den]
  exact Nat.div_mul_le_self _ _

theorem F32.lt_scaled_floorMag_succ_mul {num den : Nat} (hd : 0 < den) :
    num < F32.scaled (F32.floorMag num den + 1) * den := by
  rw [F32.scaled_floorMag_succ, Nat.mul_assoc, Nat.mul_comm _ den, Nat.mul_comm]
  exact Nat.lt_mul_div_succ _ (by positivity)

/-- The magnitudes not above a quotient. -/
theorem F32.le_floorMag_iff {num den m : Nat} (hd : 0 < den) :
    m ≤ F32.floorMag num den ↔ F32.scaled m * den ≤ num := by
  constructor
  · intro h
    exact (Nat.mul_le_mul_right den (F32.scaled_le_scaled.2 h)).trans (F32.scaled_floorMag_mul_le num den)
  · intro h
    have hlt := h.trans_lt (F32.lt_scaled_floorMag_succ_mul hd)
    exact Nat.lt_succ_iff.1 (F32.scaled_lt_scaled.1 (Nat.lt_of_mul_lt_mul_right hlt))

/-! ### The three roundings -/

theorem F32.roundDown_eq_min (num den : Nat) :
    F32.roundDown num den = min (F32.floorMag num den) F32.infMag := rfl

/-- The carry that rounding up gives a remainder. -/
theorem add_pred_div {r d : Nat} (hr : r < d) : (r + (d - 1)) / d = if r = 0 then 0 else 1 := by
  split
  · next h0 => exact Nat.div_eq_of_lt (by omega)
  · next h0 =>
    rw [show r + (d - 1) = r - 1 + d by omega, Nat.add_div_right _ (by omega), Nat.div_eq_of_lt (by omega)]

/-- A quotient that is no binary32 value is rounded up to the next one. -/
theorem F32.roundUp_eq_min {num den : Nat} (hd : 0 < den) :
    F32.roundUp num den =
      min (if F32.scaled (F32.floorMag num den) * den = num then F32.floorMag num den
        else F32.floorMag num den + 1) F32.infMag := by
  rw [F32.scaled_floorMag]
  unfold F32.roundUp F32.assemble F32.floorMag
  dsimp only
  generalize F32.spacing num den = k
  have hpos : 0 < den * 2 ^ k := by positivity
  have hnum := Nat.div_add_mod num (den * 2 ^ k)
  have hr := Nat.mod_lt num hpos
  have hiff : num / (den * 2 ^ k) * 2 ^ k * den = num ↔ num % (den * 2 ^ k) = 0 := by
    rw [show num / (den * 2 ^ k) * 2 ^ k * den = den * 2 ^ k * (num / (den * 2 ^ k)) by ring]
    omega
  have hceil : (num + (den * 2 ^ k - 1)) / (den * 2 ^ k) =
      num / (den * 2 ^ k) + if num % (den * 2 ^ k) = 0 then 0 else 1 := by
    rw [← add_pred_div hr, ← Nat.mul_add_div hpos, ← Nat.add_assoc, hnum]
  rw [hceil]
  simp only [hiff]
  split
  · rw [Nat.add_zero (num / _)]
  · rw [Nat.add_assoc]

/-- Whether a quotient is nearer to the magnitude above it, or as near and that magnitude is even. -/
def F32.roundsUp (num den : Nat) : Prop :=
  (F32.scaled (F32.floorMag num den) + F32.scaled (F32.floorMag num den + 1)) * den < 2 * num ∨
    ((F32.scaled (F32.floorMag num den) + F32.scaled (F32.floorMag num den + 1)) * den = 2 * num ∧
      F32.floorMag num den % 2 = 1)

/-- Rounding to nearest compares the quotient with the middle of the two magnitudes around it. -/
theorem F32.roundNearest_eq_min (num den : Nat) [Decidable (F32.roundsUp num den)] :
    F32.roundNearest num den =
      min (if F32.roundsUp num den then F32.floorMag num den + 1 else F32.floorMag num den)
        F32.infMag := by
  have hiff : F32.roundsUp num den ↔
      den * 2 ^ F32.spacing num den < 2 * (num % (den * 2 ^ F32.spacing num den)) ∨
        (2 * (num % (den * 2 ^ F32.spacing num den)) = den * 2 ^ F32.spacing num den ∧
          num / (den * 2 ^ F32.spacing num den) % 2 = 1) := by
    unfold F32.roundsUp
    rw [F32.scaled_floorMag, F32.scaled_floorMag_succ]
    unfold F32.floorMag
    generalize F32.spacing num den = k
    have hnum := Nat.div_add_mod num (den * 2 ^ k)
    generalize num / (den * 2 ^ k) = q at *
    generalize num % (den * 2 ^ k) = r at *
    have hmid : (q * 2 ^ k + (q + 1) * 2 ^ k) * den = 2 * (den * 2 ^ k * q) + den * 2 ^ k := by ring
    rw [hmid]
    omega
  rw [F32.roundNearest_eq, F32.assemble]
  simp only [← hiff]
  unfold F32.floorMag
  split
  · rw [Nat.add_assoc]
  · rfl

/-- Rounding down answers the greatest magnitude not above the quotient. -/
theorem F32.le_roundDown_iff {num den m : Nat} (hd : 0 < den) (hm : m ≤ F32.infMag) :
    m ≤ F32.roundDown num den ↔ F32.scaled m * den ≤ num := by
  rw [F32.roundDown_eq_min, le_min_iff, and_iff_left hm, F32.le_floorMag_iff hd]

/-- Rounding up answers the least magnitude not below the quotient. -/
theorem F32.roundUp_le_iff {num den m : Nat} (hd : 0 < den) (hm : m < F32.infMag) :
    F32.roundUp num den ≤ m ↔ num ≤ F32.scaled m * den := by
  rw [F32.roundUp_eq_min hd, min_le_iff, or_iff_left (Nat.not_le.2 hm)]
  have hle := F32.scaled_floorMag_mul_le num den
  split
  · next heq => rw [← F32.scaled_le_scaled, ← Nat.mul_le_mul_right_iff hd, heq]
  · next hne =>
    have hlt : num ≤ F32.scaled m * den ↔ ¬F32.scaled m * den ≤ num ∨ F32.scaled m * den = num := by
      omega
    rw [hlt, ← F32.le_floorMag_iff hd, Nat.succ_le_iff, ← Nat.not_le]
    refine ⟨.inl, fun h => h.elim id fun heq hm' => hne ?_⟩
    have hup := Nat.mul_le_mul_right den (F32.scaled_le_scaled.2 hm')
    omega

theorem F32.roundNearest_le_roundUp {num den : Nat} (hd : 0 < den) :
    F32.roundNearest num den ≤ F32.roundUp num den := by
  rcases (F32.roundUp_le num den).lt_or_eq with hlt | heq
  · exact F32.roundNearest_le_of_le hd hlt.le ((F32.roundUp_le_iff hd hlt).1 le_rfl)
  · rw [heq]
    exact F32.roundNearest_le num den

theorem F32.roundDown_mono {num den num' den' : Nat} (hd : 0 < den) (hd' : 0 < den')
    (h : num * den' ≤ num' * den) : F32.roundDown num den ≤ F32.roundDown num' den' := by
  have hm := F32.roundDown_le num den
  have hle := (F32.le_roundDown_iff hd hm).1 le_rfl
  rw [F32.le_roundDown_iff hd' hm]
  refine Nat.le_of_mul_le_mul_right (c := den) ?_ hd
  calc F32.scaled (F32.roundDown num den) * den' * den
      = F32.scaled (F32.roundDown num den) * den * den' := by ring
    _ ≤ num * den' := Nat.mul_le_mul_right _ hle
    _ ≤ num' * den := h

theorem F32.roundUp_mono {num den num' den' : Nat} (hd : 0 < den) (hd' : 0 < den')
    (h : num * den' ≤ num' * den) : F32.roundUp num den ≤ F32.roundUp num' den' := by
  rcases (F32.roundUp_le num' den').lt_or_eq with hlt | heq
  · have hle := (F32.roundUp_le_iff hd' hlt).1 le_rfl
    rw [F32.roundUp_le_iff hd hlt]
    refine Nat.le_of_mul_le_mul_right (c := den') ?_ hd'
    calc num * den' ≤ num' * den := h
      _ ≤ F32.scaled (F32.roundUp num' den') * den' * den := Nat.mul_le_mul_right _ hle
      _ = F32.scaled (F32.roundUp num' den') * den * den' := by ring
  · rw [heq]
    exact F32.roundUp_le num den

/-! ### Nearest, and the overflow threshold -/

/-- The two magnitudes around a quotient, over the reals. -/
theorem F32.scaled_floorMag_le_div_lt {num den : Nat} (hd : 0 < den) :
    (F32.scaled (F32.floorMag num den) : ℝ) ≤ num / den ∧
      (num / den : ℝ) < F32.scaled (F32.floorMag num den + 1) := by
  have hd' : (0 : ℝ) < den := Nat.cast_pos.2 hd
  rw [le_div_iff₀ hd', div_lt_iff₀ hd']
  exact ⟨by exact_mod_cast F32.scaled_floorMag_mul_le num den,
    by exact_mod_cast F32.lt_scaled_floorMag_succ_mul hd⟩

/-- The comparison with the middle, over the reals. -/
theorem F32.roundsUp_iff {num den : Nat} (hd : 0 < den) :
    F32.roundsUp num den ↔
      (F32.scaled (F32.floorMag num den) + F32.scaled (F32.floorMag num den + 1) : ℝ) <
          2 * (num / den) ∨
        ((F32.scaled (F32.floorMag num den) + F32.scaled (F32.floorMag num den + 1) : ℝ) =
            2 * (num / den) ∧ F32.floorMag num den % 2 = 1) := by
  have hd' : (0 : ℝ) < den := Nat.cast_pos.2 hd
  rw [← mul_div_assoc, lt_div_iff₀ hd', eq_div_iff hd'.ne', F32.roundsUp]
  norm_cast

/-- Short of the infinity no magnitude is nearer to the quotient than the rounded one, and of two as near
the rounded one is even. -/
theorem F32.roundNearest_nearest {num den : Nat} (hd : 0 < den)
    (hfin : F32.roundNearest num den < F32.infMag) (n : Nat) :
    |(F32.scaled (F32.roundNearest num den) : ℝ) - num / den| ≤ |(F32.scaled n : ℝ) - num / den| ∧
      (n ≠ F32.roundNearest num den →
        |(F32.scaled n : ℝ) - num / den| = |(F32.scaled (F32.roundNearest num den) : ℝ) - num / den| →
        F32.roundNearest num den % 2 = 0) := by
  classical
  obtain ⟨hlo, hhi⟩ := F32.scaled_floorMag_le_div_lt (num := num) hd
  have hbelow : n ≤ F32.floorMag num den →
      |(F32.scaled n : ℝ) - num / den| = num / den - F32.scaled n ∧
        (F32.scaled n : ℝ) ≤ F32.scaled (F32.floorMag num den) := fun h => by
    have hle : (F32.scaled n : ℝ) ≤ F32.scaled (F32.floorMag num den) :=
      Nat.cast_le.2 (F32.scaled_le_scaled.2 h)
    exact ⟨by rw [abs_of_nonpos (by linarith), neg_sub], hle⟩
  have habove : F32.floorMag num den + 1 ≤ n →
      |(F32.scaled n : ℝ) - num / den| = F32.scaled n - num / den ∧
        (F32.scaled (F32.floorMag num den + 1) : ℝ) ≤ F32.scaled n := fun h => by
    have hle : (F32.scaled (F32.floorMag num den + 1) : ℝ) ≤ F32.scaled n :=
      Nat.cast_le.2 (F32.scaled_le_scaled.2 h)
    exact ⟨abs_of_nonneg (by linarith), hle⟩
  have hinj : ∀ a b : Nat, (F32.scaled a : ℝ) = F32.scaled b → a = b := fun a b h =>
    F32.scaled_strictMono.injective (Nat.cast_injective h)
  rw [F32.roundNearest_eq_min] at hfin ⊢
  rw [min_eq_left (by omega)]
  by_cases hup : F32.roundsUp num den
  · rw [if_pos hup, abs_of_nonneg (a := (F32.scaled (F32.floorMag num den + 1) : ℝ) - _) (by linarith)]
    rw [F32.roundsUp_iff hd] at hup
    rcases Nat.lt_or_ge (F32.floorMag num den) n with hn | hn
    · obtain ⟨habs, hle⟩ := habove hn
      rw [habs]
      exact ⟨by linarith, fun hne heq => absurd (hinj _ _ (by linarith)) hne⟩
    · obtain ⟨habs, hle⟩ := hbelow hn
      rw [habs]
      refine ⟨by rcases hup with h | ⟨h, -⟩ <;> linarith, fun _ heq => ?_⟩
      rcases hup with h | ⟨-, hodd⟩
      · linarith
      · omega
  · rw [if_neg hup, abs_of_nonpos (a := (F32.scaled (F32.floorMag num den) : ℝ) - _) (by linarith)]
    rw [F32.roundsUp_iff hd, not_or, not_lt] at hup
    obtain ⟨hmid, htie⟩ := hup
    rcases Nat.lt_or_ge (F32.floorMag num den) n with hn | hn
    · obtain ⟨habs, hle⟩ := habove hn
      rw [habs]
      refine ⟨by linarith, fun _ heq => ?_⟩
      by_contra hodd
      exact htie ⟨by linarith, by omega⟩
    · obtain ⟨habs, hle⟩ := hbelow hn
      rw [habs]
      exact ⟨by linarith, fun hne heq => absurd (hinj _ _ (by linarith)) hne⟩

@[simp] theorem F32.scaled_oneMag : F32.scaled F32.oneMag = 2 ^ 149 := by decide +kernel

theorem F32.scaled_infMag : F32.scaled F32.infMag = 2 ^ 24 * 2 ^ 253 := by decide +kernel

/-- The greatest finite magnitude. -/
theorem F32.scaled_infMag_pred : F32.scaled (F32.infMag - 1) = (2 ^ 24 - 1) * 2 ^ 253 := by
  decide +kernel

/-- Rounding overflows from halfway between the greatest finite magnitude and the next power of two on. -/
theorem F32.roundNearest_eq_infMag_iff {num den : Nat} (hd : 0 < den) :
    F32.roundNearest num den = F32.infMag ↔ ((2 : ℝ) ^ 25 - 1) * 2 ^ 252 ≤ num / den := by
  classical
  obtain ⟨hlo, hhi⟩ := F32.scaled_floorMag_le_div_lt (num := num) hd
  have hinf : (F32.scaled F32.infMag : ℝ) = 2 ^ 24 * 2 ^ 253 := by
    exact_mod_cast F32.scaled_infMag
  have hpred : (F32.scaled (F32.infMag - 1) : ℝ) = (2 ^ 24 - 1) * 2 ^ 253 := by
    rw [F32.scaled_infMag_pred]; norm_num
  rw [F32.roundNearest_eq_min, min_eq_right_iff]
  rcases lt_trichotomy (F32.floorMag num den) (F32.infMag - 1) with hlt | heq | hgt
  · have hle : (F32.scaled (F32.floorMag num den + 1) : ℝ) ≤ F32.scaled (F32.infMag - 1) :=
      Nat.cast_le.2 (F32.scaled_le_scaled.2 hlt)
    refine iff_of_false ?_ (not_le.2 (by linarith))
    split <;> omega
  · have hodd : F32.floorMag num den % 2 = 1 := heq ▸ by decide
    have hsucc : F32.floorMag num den + 1 = F32.infMag := by rw [heq]; rfl
    have hup : F32.roundsUp num den ↔ ((2 : ℝ) ^ 25 - 1) * 2 ^ 252 ≤ num / den := by
      rw [F32.roundsUp_iff hd, and_iff_left hodd, ← le_iff_lt_or_eq, hsucc, heq, hinf, hpred]
      constructor <;> intro h <;> linarith
    rw [← hup]
    split
    · next h => exact iff_of_true hsucc.ge h
    · next h => exact iff_of_false (by omega) h
  · have hle : (F32.scaled F32.infMag : ℝ) ≤ F32.scaled (F32.floorMag num den) :=
      Nat.cast_le.2 (F32.scaled_le_scaled.2 (Nat.le_of_pred_lt hgt))
    refine iff_of_true ?_ (by linarith)
    split <;> omega

/-! ### Signed values -/

/-- A sign bit as a factor. -/
def F32.signFactor (s : Bool) : ℝ := if s then -1 else 1

@[simp] theorem F32.abs_signFactor (s : Bool) : |F32.signFactor s| = 1 := by
  cases s <;> simp [F32.signFactor]

theorem F32.signFactor_bne (s t : Bool) :
    F32.signFactor (s != t) = F32.signFactor s * F32.signFactor t := by
  cases s <;> cases t <;> simp [F32.signFactor]

theorem F32.signFactor_mul_neg_iff {s : Bool} {t : ℝ} (ht : 0 < t) :
    F32.signFactor s * t < 0 ↔ s = true := by
  cases s <;> simp [F32.signFactor, ht, ht.le]

/-- A value is its sign times its magnitude. -/
theorem F32.toReal_eq (x : F32) :
    F32.toReal x = F32.signFactor (F32.sign x) * F32.scaled (F32.mag x) / 2 ^ 149 := by
  unfold F32.toReal F32.toInt F32.signFactor
  split <;> simp

theorem F32.toReal_pack (s : Bool) {m : Nat} (hm : m < 2 ^ 31) :
    F32.toReal (F32.pack s m) = F32.signFactor s * F32.scaled m / 2 ^ 149 := by
  rw [F32.toReal_eq, F32.sign_pack s hm, F32.mag_pack s hm]

theorem F32.lt_two_pow_of_le_infMag {m : Nat} (hm : m ≤ F32.infMag) : m < 2 ^ 31 :=
  hm.trans_lt F32.infMag_lt

theorem F32.toReal_pack_false {m : Nat} (hm : m ≤ F32.infMag) :
    F32.toReal (F32.pack false m) = F32.scaled m / 2 ^ 149 := by
  rw [F32.toReal_pack false (F32.lt_two_pow_of_le_infMag hm)]
  simp [F32.signFactor]

/-- Against any value, a value of a given sign is no further than the magnitudes are. -/
theorem F32.abs_scaled_sub_le (s : Bool) (y : F32) {t : ℝ} (ht : 0 ≤ t) :
    |(F32.scaled (F32.mag y) : ℝ) - t| ≤ |F32.toReal y - F32.signFactor s * t / 2 ^ 149| * 2 ^ 149 := by
  rw [F32.toReal_eq, ← sub_div, abs_div, abs_of_pos (a := (2 : ℝ) ^ 149) (by positivity),
    div_mul_cancel₀ _ (by positivity)]
  simpa [abs_mul, abs_of_nonneg ht] using
    abs_abs_sub_abs_le (F32.signFactor (F32.sign y) * F32.scaled (F32.mag y)) (F32.signFactor s * t)

/-- Values of equal magnitude bits are equal or opposite. -/
theorem F32.toReal_eq_or_eq_neg {x y : F32} (h : F32.mag x = F32.mag y) :
    F32.toReal x = F32.toReal y ∨ F32.toReal x = -F32.toReal y := by
  rw [F32.toReal_eq, F32.toReal_eq, h]
  cases F32.sign x <;> cases F32.sign y <;> simp [F32.signFactor, neg_div]

/-- R8: packing the nearest magnitude of a quotient under a sign rounds the signed quotient (in units of
`2^-149`). -/
theorem F32.roundsTo_pack_roundNearest (s : Bool) {num den : Nat} (hd : 0 < den) :
    F32.RoundsTo (F32.pack s (F32.roundNearest num den))
      (F32.signFactor s * (num / den) / 2 ^ 149) := by
  have ht : (0 : ℝ) ≤ num / den := by positivity
  have hm := F32.lt_two_pow_of_le_infMag (F32.roundNearest_le num den)
  have habs : |F32.signFactor s * (num / den) / 2 ^ 149| = (num / den / 2 ^ 149 : ℝ) := by
    rw [abs_div, abs_mul, F32.abs_signFactor, one_mul, abs_of_nonneg ht, abs_of_pos (by positivity)]
  have hover := F32.roundNearest_eq_infMag_iff (num := num) hd
  have hthr : ((2 : ℝ) ^ 25 - 1) * 2 ^ 252 = (2 ^ 128 - 2 ^ 103) * 2 ^ 149 := by norm_num
  rw [hthr, ← le_div_iff₀ (by positivity)] at hover
  unfold F32.RoundsTo
  rw [habs, F32.isFinite_iff, F32.isInf_iff, F32.mag_pack s hm, F32.sign_pack s hm]
  rcases (F32.roundNearest_le num den).lt_or_eq with hfin | hinf
  · have hr : |F32.toReal (F32.pack s (F32.roundNearest num den)) -
          F32.signFactor s * (num / den) / 2 ^ 149| * 2 ^ 149 =
        |(F32.scaled (F32.roundNearest num den) : ℝ) - num / den| := by
      rw [F32.toReal_pack s hm, ← sub_div, ← mul_sub, abs_div, abs_mul, F32.abs_signFactor, one_mul,
        abs_of_pos (a := (2 : ℝ) ^ 149) (by positivity), div_mul_cancel₀ _ (by positivity)]
    have hfar : ∀ y, |(F32.scaled (F32.mag y) : ℝ) - num / den| ≤
        |F32.toReal y - F32.signFactor s * (num / den) / 2 ^ 149| * 2 ^ 149 :=
      fun y => F32.abs_scaled_sub_le s y ht
    refine .inl ⟨hfin, lt_of_not_ge fun h => hfin.ne (hover.2 h), fun y _ => ?_, fun y _ hne heq => ?_⟩
    · refine le_of_mul_le_mul_right ?_ (show (0 : ℝ) < 2 ^ 149 by positivity)
      exact hr ▸ (F32.roundNearest_nearest hd hfin _).1.trans (hfar y)
    · obtain ⟨hnear, htie⟩ := F32.roundNearest_nearest hd hfin (F32.mag y)
      by_cases hmag : F32.mag y = F32.roundNearest num den
      · have hzero := (F32.roundNearest_nearest hd hfin 0).1
        have hopp := (F32.toReal_eq_or_eq_neg (hmag.trans (F32.mag_pack s hm).symm)).resolve_left hne
        rw [hopp] at heq hne
        have hx : F32.signFactor s * (num / den) / 2 ^ 149 = 0 := by
          rcases abs_eq_abs.1 heq with h | h
          · exact absurd (by linarith) hne
          · linarith
        rw [hx, abs_zero, eq_comm, div_eq_zero_iff, or_iff_left (by positivity)] at habs
        rw [← hr, hx, habs, F32.scaled_zero, Nat.cast_zero, sub_zero, sub_zero, abs_zero] at hzero
        have hR : F32.toReal (F32.pack s (F32.roundNearest num den)) = 0 :=
          abs_nonpos_iff.1 (by linarith)
        exact absurd (by rw [hR, neg_zero]) hne
      · exact htie hmag (le_antisymm (hr ▸ heq ▸ hfar y) hnear)
  · refine .inr ⟨hinf, hover.1 hinf, ?_⟩
    have hpos : (0 : ℝ) < num / den / 2 ^ 149 := lt_of_lt_of_le (by norm_num) (hover.1 hinf)
    rw [mul_div_assoc, F32.signFactor_mul_neg_iff hpos]

/-! ### The four operations -/

theorem F32.sign_neg (b : F32) : F32.sign (F32.neg b) = !F32.sign b := by
  have h : (0x80000000#32).msb = true := by decide
  simp [F32.sign, F32.neg, h]

theorem F32.mag_neg (b : F32) : F32.mag (F32.neg b) = F32.mag b := by
  unfold F32.mag F32.neg
  rw [BitVec.toNat_xor, Nat.xor_mod_two_pow]
  simp

theorem F32.neg_pack (s : Bool) {m : Nat} (hm : m < 2 ^ 31) :
    F32.neg (F32.pack s m) = F32.pack (!s) m := by
  rw [← F32.pack_sign_mag (F32.neg _), F32.sign_neg, F32.mag_neg, F32.sign_pack s hm, F32.mag_pack s hm]

theorem F32.toReal_neg (b : F32) : F32.toReal (F32.neg b) = -F32.toReal b := by
  rw [F32.toReal_eq, F32.toReal_eq, F32.sign_neg, F32.mag_neg]
  cases F32.sign b <;> simp [F32.signFactor, neg_div]

theorem F32.isFinite_neg (b : F32) : F32.isFinite (F32.neg b) = F32.isFinite b := by
  unfold F32.isFinite
  rw [F32.mag_neg]

theorem F32.isInf_eq_false_of_isFinite {x : F32} (h : F32.isFinite x = true) : F32.isInf x = false := by
  rw [F32.isFinite_iff] at h
  exact decide_eq_false h.ne

/-- An exact sum in units of `2^-149`, rounded once. -/
theorem F32.roundsTo_roundSum (neg0 : Bool) (z : Int) :
    F32.RoundsTo (F32.roundSum neg0 z) ((z : ℝ) / 2 ^ 149) := by
  have key := fun s => F32.roundsTo_pack_roundNearest s (num := z.natAbs) Nat.one_pos
  unfold F32.roundSum
  split
  · next h =>
    have h0 : F32.roundNearest 0 1 = 0 := by decide
    simpa [h, h0] using key neg0
  · have hz : F32.signFactor (decide (z < 0)) * |(z : ℝ)| = z := by
      rcases lt_or_ge z 0 with hneg | hpos
      · simp [F32.signFactor, hneg, abs_of_neg]
      · simp [F32.signFactor, hpos, hpos.not_gt]
    simpa [hz] using key (decide (z < 0))

theorem F32.roundsTo_add {a b : F32} (ha : F32.isFinite a = true) (hb : F32.isFinite b = true) :
    F32.RoundsTo (F32.add a b) (F32.toReal a + F32.toReal b) := by
  have hsum : F32.toReal a + F32.toReal b = ((F32.toInt a + F32.toInt b : Int) : ℝ) / 2 ^ 149 := by
    rw [F32.toReal, F32.toReal, Int.cast_add, add_div]
  have hadd : F32.add a b = F32.roundSum (F32.sign a && F32.sign b) (F32.toInt a + F32.toInt b) := by
    simp [F32.add, F32.not_isNaN_of_isFinite, F32.isInf_eq_false_of_isFinite, ha, hb]
  rw [hsum, hadd]
  exact F32.roundsTo_roundSum _ _

theorem F32.roundsTo_sub {a b : F32} (ha : F32.isFinite a = true) (hb : F32.isFinite b = true) :
    F32.RoundsTo (F32.sub a b) (F32.toReal a - F32.toReal b) := by
  have hreal : F32.toReal a - F32.toReal b = F32.toReal a + F32.toReal (F32.neg b) := by
    rw [F32.toReal_neg]
    ring
  rw [F32.sub_eq_add_neg ha hb, hreal]
  exact F32.roundsTo_add ha (by rwa [F32.isFinite_neg])

theorem F32.roundsTo_mul {a b : F32} (ha : F32.isFinite a = true) (hb : F32.isFinite b = true) :
    F32.RoundsTo (F32.mul a b) (F32.toReal a * F32.toReal b) := by
  have hmul : F32.mul a b = F32.pack (F32.sign a != F32.sign b)
      (F32.roundNearest (F32.scaled (F32.mag a) * F32.scaled (F32.mag b)) (2 ^ 149)) := by
    simp [F32.mul, F32.not_isNaN_of_isFinite, F32.isInf_eq_false_of_isFinite, ha, hb]
  have hprod : F32.toReal a * F32.toReal b = F32.signFactor (F32.sign a != F32.sign b) *
      ((F32.scaled (F32.mag a) * F32.scaled (F32.mag b) : Nat) / (2 ^ 149 : Nat)) / 2 ^ 149 := by
    rw [F32.toReal_eq, F32.toReal_eq, F32.signFactor_bne]
    push_cast
    ring
  rw [hmul, hprod]
  exact F32.roundsTo_pack_roundNearest _ (by positivity)

theorem F32.toReal_eq_zero_iff (x : F32) : F32.toReal x = 0 ↔ F32.mag x = 0 := by
  rw [← F32.scaled_eq_zero, F32.toReal_eq]
  cases F32.sign x <;> simp [F32.signFactor]

theorem F32.roundsTo_div {a b : F32} (ha : F32.isFinite a = true) (hb : F32.isFinite b = true)
    (hb0 : F32.toReal b ≠ 0) : F32.RoundsTo (F32.div a b) (F32.toReal a / F32.toReal b) := by
  rw [Ne, F32.toReal_eq_zero_iff] at hb0
  have hden : 0 < F32.scaled (F32.mag b) := Nat.pos_of_ne_zero (mt F32.scaled_eq_zero.1 hb0)
  have hdiv : F32.div a b = F32.pack (F32.sign a != F32.sign b)
      (F32.roundNearest (F32.scaled (F32.mag a) * 2 ^ 149) (F32.scaled (F32.mag b))) := by
    simp [F32.div, F32.not_isNaN_of_isFinite, F32.isInf_eq_false_of_isFinite, ha, hb, hb0]
  have hquot : F32.toReal a / F32.toReal b = F32.signFactor (F32.sign a != F32.sign b) *
      ((F32.scaled (F32.mag a) * 2 ^ 149 : Nat) / F32.scaled (F32.mag b)) / 2 ^ 149 := by
    have hsq : (F32.signFactor (F32.sign b))⁻¹ = F32.signFactor (F32.sign b) := by
      cases F32.sign b <;> simp [F32.signFactor]
    rw [F32.toReal_eq, F32.toReal_eq, F32.signFactor_bne, div_div_div_cancel_right₀ (by positivity),
      mul_div_mul_comm, div_eq_mul_inv (F32.signFactor _), hsq]
    push_cast
    ring
  rw [hdiv, hquot]
  exact F32.roundsTo_pack_roundNearest _ hden

/-- Settles O44: each operation packs the nearest magnitude of the exact quotient it computes. -/
theorem arithmeticRoundsToNearestEven : Obligations.ArithmeticRoundsToNearestEven := fun _ _ ha hb =>
  ⟨F32.roundsTo_add ha hb, F32.roundsTo_sub ha hb, F32.roundsTo_mul ha hb, F32.roundsTo_div ha hb⟩

end Sys2Proof
end

section
/-! PROOFS. The bounds on the exponential that the brackets of EXP and TANH are computed from (R9, R10):
they enclose `e^x`, they grow with `x`, and they lie close together. -/

namespace Sys2Proof

/-! ### The series -/

/-- Term `k` of the series that `F32.expTerms` adds up. -/
def F32.expTerm (up Y : Nat) : Nat → Nat
  | 0 => 2 ^ 640
  | k + 1 => F32.expTerm up Y k * Y / (2 ^ 156 * (k + 1)) + up

theorem F32.expTerm_succ (up Y k : Nat) :
    F32.expTerm up Y (k + 1) = F32.expTerm up Y k * Y / (2 ^ 156 * (k + 1)) + up := rfl

theorem F32.expTerm_zero_succ (Y k : Nat) :
    F32.expTerm 0 Y (k + 1) = F32.expTerm 0 Y k * Y / (2 ^ 156 * (k + 1)) :=
  (F32.expTerm_succ 0 Y k).trans (Nat.add_zero _)

theorem F32.expTerm_zero (up Y : Nat) : F32.expTerm up Y 0 = 2 ^ 640 := rfl

theorem F32.expTerms_eq_sum (up Y fuel k acc : Nat) :
    F32.expTerms up Y fuel k (F32.expTerm up Y k) acc =
      acc + ∑ i ∈ Finset.range fuel, F32.expTerm up Y (k + i) +
        up * (2 * F32.expTerm up Y (k + fuel)) := by
  induction fuel generalizing k acc with
  | zero => rfl
  | succ fuel ih =>
    have hshift : ∀ i, k + 1 + i = k + (i + 1) := fun i => by omega
    rw [F32.expTerms, ← F32.expTerm_succ, ih, Finset.sum_range_succ', Nat.add_zero k]
    simp only [hshift]
    ring

/-- The series at `y = Y/2^156`, in units of `2^-640`. -/
def F32.expSeries (up Y : Nat) : Nat := F32.expTerms up Y 128 0 (2 ^ 640) 0

theorem F32.expSeries_eq_sum (up Y : Nat) :
    F32.expSeries up Y =
      ∑ i ∈ Finset.range 128, F32.expTerm up Y i + up * (2 * F32.expTerm up Y 128) := by
  have h := F32.expTerms_eq_sum up Y 128 0 0
  simp only [Nat.zero_add] at h
  exact h

theorem F32.expScaled_eq (up X : Nat) : F32.expScaled up X = F32.squarings up 7 (F32.expSeries up X) := rfl

/-! ### The bounds grow with the argument -/

theorem F32.expTerm_mono (up k : Nat) {Y Y' : Nat} (h : Y ≤ Y') :
    F32.expTerm up Y k ≤ F32.expTerm up Y' k := by
  induction k with
  | zero => rw [F32.expTerm_zero, F32.expTerm_zero]
  | succ k ih => exact Nat.add_le_add_right (Nat.div_le_div_right (Nat.mul_le_mul ih h)) up

theorem F32.expSeries_mono (up : Nat) {Y Y' : Nat} (h : Y ≤ Y') :
    F32.expSeries up Y ≤ F32.expSeries up Y' := by
  rw [F32.expSeries_eq_sum, F32.expSeries_eq_sum]
  gcongr <;> exact F32.expTerm_mono up _ h

theorem F32.squarings_mono (up n : Nat) {e e' : Nat} (h : e ≤ e') :
    F32.squarings up n e ≤ F32.squarings up n e' := by
  induction n generalizing e e' with
  | zero => exact h
  | succ n ih => exact ih (Nat.add_le_add_right (Nat.div_le_div_right (Nat.mul_le_mul h h)) up)

theorem F32.expScaled_mono (up : Nat) {X X' : Nat} (h : X ≤ X') :
    F32.expScaled up X ≤ F32.expScaled up X' :=
  F32.squarings_mono up 7 (F32.expSeries_mono up h)

/-! ### The bounds are at least one -/

theorem F32.le_expSeries (up Y : Nat) : 2 ^ 640 ≤ F32.expSeries up Y := by
  rw [F32.expSeries_eq_sum]
  have hfirst : F32.expTerm up Y 0 ≤ ∑ i ∈ Finset.range 128, F32.expTerm up Y i :=
    Finset.single_le_sum (fun _ _ => Nat.zero_le _) (Finset.mem_range.2 (by norm_num))
  exact hfirst.trans (Nat.le_add_right _ _)

theorem le_mul_self_div {B e : Nat} (hB : 0 < B) (h : B ≤ e) : B ≤ e * e / B :=
  (Nat.le_div_iff_mul_le hB).2 (Nat.mul_le_mul h h)

theorem expUnit_pos : 0 < 2 ^ 640 := by positivity

theorem F32.le_squarings (up n : Nat) {e : Nat} (h : 2 ^ 640 ≤ e) : 2 ^ 640 ≤ F32.squarings up n e := by
  induction n generalizing e with
  | zero => exact h
  | succ n ih =>
    have hsq := le_mul_self_div expUnit_pos h
    exact ih (hsq.trans (Nat.le_add_right _ up))

theorem F32.le_expScaled (up X : Nat) : 2 ^ 640 ≤ F32.expScaled up X :=
  F32.le_squarings up 7 (F32.le_expSeries up X)

/-! ### The bounds enclose the exponential -/

/-- A whole quotient is the real one less a fraction. -/
theorem natDiv_le_div_lt (m : Nat) {n : Nat} (hn : 0 < n) :
    ((m / n : Nat) : ℝ) ≤ m / n ∧ (m / n : ℝ) < (m / n : Nat) + 1 := by
  refine ⟨Nat.cast_div_le, ?_⟩
  rw [div_lt_iff₀ (Nat.cast_pos.2 hn)]
  exact_mod_cast (Nat.mul_comm n _) ▸ Nat.lt_mul_div_succ m hn

theorem cast_two_pow (n : Nat) : ((2 ^ n : Nat) : ℝ) = 2 ^ n := by rw [Nat.cast_pow, Nat.cast_ofNat]

/-- The exact term `y^k/k!` in units of `2^-640`. -/
noncomputable def realTerm (y : ℝ) (k : Nat) : ℝ := 2 ^ 640 * (y ^ k / k.factorial)

theorem realTerm_zero (y : ℝ) : realTerm y 0 = 2 ^ 640 := by
  rw [realTerm, pow_zero, Nat.factorial_zero, Nat.cast_one, div_one, mul_one]

theorem realTerm_succ (Y k : Nat) :
    realTerm (Y / 2 ^ 156) (k + 1) =
      realTerm (Y / 2 ^ 156) k * Y / ((2 ^ 156 * (k + 1) : Nat) : ℝ) := by
  unfold realTerm
  rw [Nat.factorial_succ, pow_succ _ k]
  generalize (Y / 2 ^ 156 : ℝ) ^ k = p
  push_cast
  field_simp
  ring

theorem F32.expTerm_zero_le (Y k : Nat) : (F32.expTerm 0 Y k : ℝ) ≤ realTerm (Y / 2 ^ 156) k := by
  induction k with
  | zero => rw [F32.expTerm_zero, realTerm_zero, cast_two_pow]
  | succ k ih =>
    rw [F32.expTerm_zero_succ, realTerm_succ]
    calc ((F32.expTerm 0 Y k * Y / (2 ^ 156 * (k + 1)) : Nat) : ℝ)
        ≤ ((F32.expTerm 0 Y k * Y : Nat) : ℝ) / (2 ^ 156 * (k + 1) : Nat) :=
          (natDiv_le_div_lt _ (by positivity)).1
      _ ≤ realTerm (Y / 2 ^ 156) k * Y / (2 ^ 156 * (k + 1) : Nat) := by
          rw [Nat.cast_mul]
          gcongr

theorem F32.le_expTerm_one (Y k : Nat) : realTerm (Y / 2 ^ 156) k ≤ F32.expTerm 1 Y k := by
  induction k with
  | zero => rw [F32.expTerm_zero, realTerm_zero, cast_two_pow]
  | succ k ih =>
    rw [F32.expTerm_succ, realTerm_succ, Nat.cast_add, Nat.cast_one]
    calc realTerm (Y / 2 ^ 156) k * Y / (2 ^ 156 * (k + 1) : Nat)
        ≤ ((F32.expTerm 1 Y k * Y : Nat) : ℝ) / (2 ^ 156 * (k + 1) : Nat) := by
          rw [Nat.cast_mul (F32.expTerm 1 Y k)]
          gcongr
      _ ≤ ((F32.expTerm 1 Y k * Y / (2 ^ 156 * (k + 1)) : Nat) : ℝ) + 1 :=
          (natDiv_le_div_lt _ (by positivity)).2.le

theorem sum_realTerm (y : ℝ) (n : Nat) :
    ∑ i ∈ Finset.range n, realTerm y i = 2 ^ 640 * ∑ i ∈ Finset.range n, y ^ i / i.factorial := by
  rw [Finset.mul_sum]
  rfl

theorem F32.expSeries_zero_le (Y : Nat) :
    (F32.expSeries 0 Y : ℝ) ≤ 2 ^ 640 * Real.exp (Y / 2 ^ 156) := by
  rw [F32.expSeries_eq_sum, Nat.zero_mul, Nat.add_zero, Nat.cast_sum]
  calc ∑ i ∈ Finset.range 128, (F32.expTerm 0 Y i : ℝ)
      ≤ ∑ i ∈ Finset.range 128, realTerm (Y / 2 ^ 156) i :=
        Finset.sum_le_sum fun i _ => F32.expTerm_zero_le Y i
    _ ≤ 2 ^ 640 * Real.exp (Y / 2 ^ 156) := by
        rw [sum_realTerm]
        gcongr
        exact Real.sum_le_exp_of_nonneg (by positivity) 128

/-- Twice the next term covers the rest of the series, for an argument of at most 1. -/
theorem exp_le_sum_realTerm {y : ℝ} (h0 : 0 ≤ y) (h1 : y ≤ 1) :
    2 ^ 640 * Real.exp y ≤ ∑ i ∈ Finset.range 128, realTerm y i + 2 * realTerm y 128 := by
  have htail := Real.exp_bound' h0 h1 (n := 128) (by norm_num)
  have hterm : (0 : ℝ) ≤ y ^ 128 / Nat.factorial 128 := by positivity
  have hrest : y ^ 128 * ((128 : Nat) + 1) / (Nat.factorial 128 * (128 : Nat)) ≤
      2 * (y ^ 128 / Nat.factorial 128) := by
    have hsplit : y ^ 128 * ((128 : Nat) + 1) / (Nat.factorial 128 * (128 : Nat)) =
        129 / 128 * (y ^ 128 / Nat.factorial 128) := by
      push_cast
      ring
    rw [hsplit]
    linarith
  rw [sum_realTerm, realTerm, mul_left_comm, ← mul_add]
  gcongr
  exact htail.trans (add_le_add_right hrest _)

theorem F32.le_expSeries_one {Y : Nat} (hY : Y ≤ 2 ^ 156) :
    2 ^ 640 * Real.exp (Y / 2 ^ 156) ≤ F32.expSeries 1 Y := by
  have hy : (Y / 2 ^ 156 : ℝ) ≤ 1 := (div_le_one (by positivity)).2 (by exact_mod_cast hY)
  rw [F32.expSeries_eq_sum, Nat.one_mul, Nat.cast_add, Nat.cast_mul, Nat.cast_sum, Nat.cast_ofNat]
  refine (exp_le_sum_realTerm (by positivity) hy).trans ?_
  gcongr <;> exact F32.le_expTerm_one Y _

theorem F32.squarings_succ (up n e : Nat) :
    F32.squarings up (n + 1) e = F32.squarings up n (e * e / 2 ^ 640 + up) := rfl

theorem F32.squarings_zero_succ (n e : Nat) :
    F32.squarings 0 (n + 1) e = F32.squarings 0 n (e * e / 2 ^ 640) := by
  rw [F32.squarings_succ, Nat.add_zero (e * e / 2 ^ 640)]

theorem two_pow_succ_mul (n : Nat) (z : ℝ) : (2 : ℝ) ^ (n + 1) * z = 2 ^ n * (z + z) := by ring

theorem F32.squarings_zero_le (n : Nat) {e : Nat} {z : ℝ} (h : (e : ℝ) ≤ 2 ^ 640 * Real.exp z) :
    (F32.squarings 0 n e : ℝ) ≤ 2 ^ 640 * Real.exp (2 ^ n * z) := by
  induction n generalizing e z with
  | zero => rwa [pow_zero, one_mul]
  | succ n ih =>
    rw [F32.squarings_zero_succ, two_pow_succ_mul n z]
    refine ih (z := z + z) ?_
    calc ((e * e / 2 ^ 640 : Nat) : ℝ) ≤ (e * e : Nat) / (2 ^ 640 : Nat) :=
          (natDiv_le_div_lt _ expUnit_pos).1
      _ ≤ 2 ^ 640 * Real.exp z * (2 ^ 640 * Real.exp z) / 2 ^ 640 := by
          rw [Nat.cast_mul, cast_two_pow]
          gcongr
      _ = 2 ^ 640 * Real.exp (z + z) := by
          rw [Real.exp_add, mul_assoc, mul_div_cancel_left₀ _ (by positivity), mul_left_comm]

theorem F32.le_squarings_one (n : Nat) {e : Nat} {z : ℝ} (h : 2 ^ 640 * Real.exp z ≤ e) :
    2 ^ 640 * Real.exp (2 ^ n * z) ≤ F32.squarings 1 n e := by
  induction n generalizing e z with
  | zero => rwa [pow_zero, one_mul]
  | succ n ih =>
    rw [F32.squarings_succ, two_pow_succ_mul n z]
    refine ih (z := z + z) ?_
    rw [Nat.cast_add, Nat.cast_one]
    calc (2 ^ 640 * Real.exp (z + z) : ℝ) = 2 ^ 640 * Real.exp z * (2 ^ 640 * Real.exp z) / 2 ^ 640 := by
          rw [Real.exp_add, mul_assoc, mul_div_cancel_left₀ _ (by positivity), mul_left_comm]
      _ ≤ (e * e : Nat) / (2 ^ 640 : Nat) := by
          rw [Nat.cast_mul, cast_two_pow]
          gcongr
      _ ≤ (e * e / 2 ^ 640 : Nat) + 1 := (natDiv_le_div_lt _ expUnit_pos).2.le

theorem two_pow_seven_mul_div (x : ℝ) : 2 ^ 7 * (x / 2 ^ 156) = x / 2 ^ 149 := by ring

/-- The bound rounded down is at most the exponential. -/
theorem F32.expScaled_zero_le (X : Nat) :
    (F32.expScaled 0 X : ℝ) ≤ 2 ^ 640 * Real.exp (X / 2 ^ 149) := by
  rw [F32.expScaled_eq, ← two_pow_seven_mul_div]
  exact F32.squarings_zero_le 7 (F32.expSeries_zero_le X)

/-- The bound rounded up is at least the exponential, on the domain of the series. -/
theorem F32.le_expScaled_one {X : Nat} (hX : X ≤ 128 * 2 ^ 149) :
    2 ^ 640 * Real.exp (X / 2 ^ 149) ≤ F32.expScaled 1 X := by
  rw [F32.expScaled_eq, ← two_pow_seven_mul_div]
  exact F32.le_squarings_one 7 (F32.le_expSeries_one (hX.trans_eq (by norm_num)))

/-! ### The bounds lie close together -/

/-- The terms rounded down and up differ by at most one for each rounding. -/
theorem F32.expTerm_one_le_add {Y : Nat} (hY : Y ≤ 2 ^ 156) (k : Nat) :
    F32.expTerm 1 Y k ≤ F32.expTerm 0 Y k + k := by
  induction k with
  | zero => rw [F32.expTerm_zero, F32.expTerm_zero, Nat.add_zero]
  | succ k ih =>
    rw [F32.expTerm_succ, F32.expTerm_zero_succ, ← Nat.add_assoc _ k 1]
    have hpos : 0 < 2 ^ 156 * (k + 1) := by positivity
    apply Nat.add_le_add_right
    rw [← Nat.add_mul_div_right _ k hpos]
    apply Nat.div_le_div_right
    calc F32.expTerm 1 Y k * Y ≤ (F32.expTerm 0 Y k + k) * Y := Nat.mul_le_mul_right Y ih
      _ = F32.expTerm 0 Y k * Y + k * Y := Nat.add_mul ..
      _ ≤ F32.expTerm 0 Y k * Y + k * (2 ^ 156 * (k + 1)) := by
          gcongr
          exact hY.trans (Nat.le_mul_of_pos_right _ k.succ_pos)

/-- The terms rounded down vanish in the end. -/
theorem F32.expTerm_zero_eq_zero {Y : Nat} (hY : Y ≤ 2 ^ 156) : F32.expTerm 0 Y 128 = 0 := by
  have hfact : ∀ k, F32.expTerm 0 Y k * k.factorial ≤ 2 ^ 640 := fun k => by
    induction k with
    | zero => exact (Nat.mul_one _).le
    | succ k ih =>
      have hterm : F32.expTerm 0 Y (k + 1) * (k + 1) ≤ F32.expTerm 0 Y k := by
        refine Nat.le_of_mul_le_mul_left (c := 2 ^ 156) ?_ (Nat.two_pow_pos 156)
        calc 2 ^ 156 * (F32.expTerm 0 Y (k + 1) * (k + 1))
            = F32.expTerm 0 Y k * Y / (2 ^ 156 * (k + 1)) * (2 ^ 156 * (k + 1)) := by
              rw [F32.expTerm_zero_succ]; ring
          _ ≤ F32.expTerm 0 Y k * Y := Nat.div_mul_le_self _ _
          _ ≤ 2 ^ 156 * F32.expTerm 0 Y k := by
              rw [Nat.mul_comm]
              exact Nat.mul_le_mul_right _ hY
      rw [Nat.factorial_succ, ← Nat.mul_assoc]
      exact (Nat.mul_le_mul_right _ hterm).trans ih
  have hlarge : 2 ^ 640 < Nat.factorial 128 := by decide +kernel
  by_contra hne
  have hself := Nat.le_mul_of_pos_left (Nat.factorial 128) (Nat.pos_of_ne_zero hne)
  exact absurd (hself.trans (hfact 128)) (Nat.not_le.2 hlarge)

theorem F32.expSeries_one_le_add {Y : Nat} (hY : Y ≤ 2 ^ 156) :
    F32.expSeries 1 Y ≤ F32.expSeries 0 Y + 2 ^ 14 := by
  have hsum : ∑ i ∈ Finset.range 128, F32.expTerm 1 Y i ≤
      ∑ i ∈ Finset.range 128, F32.expTerm 0 Y i + ∑ i ∈ Finset.range 128, i := by
    rw [← Finset.sum_add_distrib]
    exact Finset.sum_le_sum fun i _ => F32.expTerm_one_le_add hY i
  have hcount : ∑ i ∈ Finset.range 128, i = 8128 := by decide +kernel
  have hlast := F32.expTerm_one_le_add hY 128
  rw [F32.expTerm_zero_eq_zero hY] at hlast
  rw [F32.expSeries_eq_sum, F32.expSeries_eq_sum, Nat.one_mul, Nat.zero_mul]
  omega

/-- One squaring multiplies a small relative distance by less than four. -/
theorem squaring_rel_le {B e e' : Nat} {δ : ℝ} (hB : 0 < B) (he : B ≤ e)
    (hle : (e' : ℝ) ≤ e * (1 + δ)) (hδ : 5 ≤ B * δ) (hδ1 : δ ≤ 1) :
    ((e' * e' / B + 1 : Nat) : ℝ) ≤ (e * e / B : Nat) * (1 + 4 * δ) := by
  have hBpos : (0 : ℝ) < B := Nat.cast_pos.2 hB
  have hδ0 : 0 ≤ δ := by by_contra h; nlinarith
  have hlow := (natDiv_le_div_lt (e * e) hB).2
  have hup := (natDiv_le_div_lt (e' * e') hB).1
  have hself : (B : ℝ) ≤ (e * e / B : Nat) :=
    Nat.cast_le.2 (le_mul_self_div hB he)
  have hsq : ((e' * e' : Nat) : ℝ) / B ≤ ((e * e : Nat) : ℝ) / B * (1 + 3 * δ) := by
    rw [div_mul_eq_mul_div]
    gcongr
    push_cast
    calc (e' * e' : ℝ) ≤ e * (1 + δ) * (e * (1 + δ)) := by gcongr
      _ = e * e * ((1 + δ) * (1 + δ)) := by ring
      _ ≤ e * e * (1 + 3 * δ) := by gcongr; nlinarith
  have hlift : 5 ≤ ((e * e / B : Nat) : ℝ) * δ := hδ.trans (by gcongr)
  push_cast at *
  nlinarith

theorem F32.squarings_rel_le (n : Nat) {e e' : Nat} {δ : ℝ} (he : 2 ^ 640 ≤ e)
    (hle : (e' : ℝ) ≤ e * (1 + δ)) (hδ : 5 ≤ 2 ^ 640 * δ) (hδ1 : 4 ^ n * δ ≤ 1) :
    (F32.squarings 1 n e' : ℝ) ≤ F32.squarings 0 n e * (1 + 4 ^ n * δ) := by
  induction n generalizing e e' δ with
  | zero => rwa [pow_zero, one_mul]
  | succ n ih =>
    have hδ0 : 0 < δ := pos_of_mul_pos_right (lt_of_lt_of_le (by norm_num) hδ) (by positivity)
    have hone : (1 : ℝ) ≤ 4 ^ (n + 1) := one_le_pow₀ (by norm_num)
    have hpow : (4 : ℝ) ^ (n + 1) * δ = 4 ^ n * (4 * δ) := by ring
    rw [F32.squarings_succ, F32.squarings_zero_succ, hpow]
    refine ih (le_mul_self_div expUnit_pos he) ?_ (hδ.trans ?_) (hpow ▸ hδ1)
    · refine squaring_rel_le expUnit_pos he hle ?_ ?_
      · rwa [cast_two_pow]
      · exact (le_mul_of_one_le_left hδ0.le hone).trans hδ1
    · gcongr
      linarith

/-- The two bounds differ by a fraction `2^-612` of the lower one. -/
theorem F32.expScaled_one_le {X : Nat} (hX : X ≤ 128 * 2 ^ 149) :
    (F32.expScaled 1 X : ℝ) ≤ F32.expScaled 0 X * (1 + 1 / 2 ^ 612) := by
  have hseries : (F32.expSeries 1 X : ℝ) ≤ F32.expSeries 0 X * (1 + 1 / 2 ^ 626) := by
    have hadd : (F32.expSeries 1 X : ℝ) ≤ F32.expSeries 0 X + 2 ^ 14 := by
      exact_mod_cast F32.expSeries_one_le_add (hX.trans_eq (by norm_num))
    have hself : (2 : ℝ) ^ 640 ≤ F32.expSeries 0 X := by
      rw [← cast_two_pow]
      exact Nat.cast_le.2 (F32.le_expSeries 0 X)
    have hshare : (2 : ℝ) ^ 14 ≤ F32.expSeries 0 X * (1 / 2 ^ 626) := by
      rw [mul_one_div, le_div_iff₀ (by positivity), ← pow_add]
      exact hself
    rw [mul_add, mul_one]
    exact hadd.trans (add_le_add_right hshare _)
  have hδ : (4 : ℝ) ^ 7 * (1 / 2 ^ 626) = 1 / 2 ^ 612 := by
    rw [show (626 : Nat) = 14 + 612 from rfl, pow_add, ← one_div_mul_one_div, ← mul_assoc]
    norm_num
  rw [F32.expScaled_eq, F32.expScaled_eq, ← hδ]
  refine F32.squarings_rel_le 7 (F32.le_expSeries 0 X) hseries ?_ ?_
  · rw [show (640 : Nat) = 14 + 626 from rfl, pow_add, mul_assoc, mul_one_div_cancel (by positivity)]
    norm_num
  · rw [hδ]
    exact (div_le_one (by positivity)).2 (one_le_pow₀ (by norm_num))

end Sys2Proof
end

section
/-! PROOFS. The brackets of EXP and TANH (R9, R10): they enclose the real result, they are narrow, they
grow with the argument, and so does every choice in them. -/

namespace Sys2Proof

/-! ### Brackets and choices -/

/-- `lo` and `hi` enclose the real result `r`, at most two magnitudes apart and at most 1.0, and `near` is
not above `hi`. -/
structure F32.Brackets (r : ℝ) (lo hi near : Nat) : Prop where
  lo_le : (F32.scaled lo : ℝ) ≤ r * 2 ^ 149
  le_hi : r * 2 ^ 149 ≤ F32.scaled hi
  hi_le_one : hi ≤ F32.oneMag
  width : hi ≤ lo + 2
  near_le : near ≤ hi

theorem F32.Brackets.lo_le_hi {r : ℝ} {lo hi near : Nat} (h : F32.Brackets r lo hi near) : lo ≤ hi := by
  have hle : (F32.scaled lo : ℝ) ≤ F32.scaled hi := h.lo_le.trans h.le_hi
  exact F32.scaled_le_scaled.1 (by exact_mod_cast hle)

theorem F32.oneMag_lt_infMag : F32.oneMag < F32.infMag := by decide

theorem F32.oneMag_lt : F32.oneMag < 2 ^ 31 := by decide

/-- Bounds on a result that are less than `2^-149` apart are rounded outwards to a bracket of it. -/
theorem F32.brackets_of_bounds {r : ℝ} {n₀ d₀ n₁ d₁ near : Nat} (h₀ : 0 < d₀) (h₁ : 0 < d₁)
    (hlo : (n₀ / d₀ : ℝ) ≤ r * 2 ^ 149) (hhi : r * 2 ^ 149 ≤ (n₁ / d₁ : ℝ))
    (hclose : (n₁ / d₁ : ℝ) < n₀ / d₀ + 1) (hone : n₁ ≤ 2 ^ 149 * d₁)
    (hnear : near ≤ F32.roundUp n₁ d₁) :
    F32.Brackets r (F32.roundDown n₀ d₀) (F32.roundUp n₁ d₁) near := by
  have hd₀ : (0 : ℝ) < d₀ := Nat.cast_pos.2 h₀
  have hd₁ : (0 : ℝ) < d₁ := Nat.cast_pos.2 h₁
  have hup : F32.roundUp n₁ d₁ ≤ F32.oneMag := by
    rw [F32.roundUp_le_iff h₁ F32.oneMag_lt_infMag, F32.scaled_oneMag]
    exact hone
  have hbelow : (F32.scaled (F32.roundDown n₀ d₀) : ℝ) ≤ n₀ / d₀ := by
    rw [le_div_iff₀ hd₀]
    exact_mod_cast (F32.le_roundDown_iff h₀ (F32.roundDown_le n₀ d₀)).1 le_rfl
  have habove : (n₁ / d₁ : ℝ) ≤ F32.scaled (F32.roundUp n₁ d₁) := by
    rw [div_le_iff₀ hd₁]
    exact_mod_cast (F32.roundUp_le_iff h₁ (hup.trans_lt F32.oneMag_lt_infMag)).1 le_rfl
  refine ⟨hbelow.trans hlo, hhi.trans habove, hup, ?_, hnear⟩
  have hlow : F32.roundDown n₀ d₀ ≤ F32.oneMag := by
    have hle : (F32.scaled (F32.roundDown n₀ d₀) : ℝ) ≤ F32.scaled (F32.roundUp n₁ d₁) := by linarith
    exact (F32.scaled_le_scaled.1 (by exact_mod_cast hle)).trans hup
  have hcap : F32.oneMag + 2 < F32.infMag := by decide
  have hnext : (n₀ / d₀ : ℝ) < F32.scaled (F32.roundDown n₀ d₀ + 1) := by
    rw [div_lt_iff₀ hd₀]
    have hnot := mt (F32.le_roundDown_iff (num := n₀) (m := F32.roundDown n₀ d₀ + 1) h₀ (by omega)).2
      (by omega)
    exact_mod_cast Nat.not_le.1 hnot
  have hstep : (F32.scaled (F32.roundDown n₀ d₀ + 1) : ℝ) + 1 ≤
      F32.scaled (F32.roundDown n₀ d₀ + 2) := by
    exact_mod_cast F32.scaled_lt_succ (F32.roundDown n₀ d₀ + 1)
  rw [F32.roundUp_le_iff h₁ (by omega)]
  have hle : (n₁ : ℝ) ≤ F32.scaled (F32.roundDown n₀ d₀ + 2) * d₁ := by
    rw [← div_le_iff₀ hd₁]
    linarith
  exact_mod_cast hle

theorem F32.Brackets.lo_lt_one {r : ℝ} {lo hi near : Nat} (h : F32.Brackets r lo hi near)
    (hr : r < 1) : lo < F32.oneMag := by
  have hlt : (F32.scaled lo : ℝ) < F32.scaled F32.oneMag := by
    rw [F32.scaled_oneMag, cast_two_pow]
    linarith [h.lo_le]
  exact F32.scaled_lt_scaled.1 (by exact_mod_cast hlt)

theorem F32.Brackets.hi_pos {r : ℝ} {lo hi near : Nat} (h : F32.Brackets r lo hi near) (hr : 0 < r) :
    0 < hi := by
  have hlt : (0 : ℝ) < F32.scaled hi := lt_of_lt_of_le (by positivity) h.le_hi
  rw [Nat.cast_pos, Nat.pos_iff_ne_zero, Ne, F32.scaled_eq_zero] at hlt
  exact Nat.pos_of_ne_zero hlt

/-- A choice in a bracket of a result below 1 is one of two neighbours around the result. -/
theorem F32.Brackets.choose_faithful {r : ℝ} {lo hi near : Nat} (h : F32.Brackets r lo hi near)
    (hr : r < 1) (split : F32 → Split) (v : F32) :
    ∃ m, m + 1 ≤ F32.oneMag ∧ F32.toReal (F32.pack false m) ≤ r ∧
      r ≤ F32.toReal (F32.pack false (m + 1)) ∧
      (F32.choose split v lo hi near = m ∨ F32.choose split v lo hi near = m + 1) := by
  have hlohi := h.lo_le_hi
  have hltone := h.lo_lt_one hr
  obtain ⟨hlo, hhi, hone, hwidth, -⟩ := h
  have hcap := F32.oneMag_lt_infMag.le
  suffices hm : ∃ m, m + 1 ≤ F32.oneMag ∧ (F32.scaled m : ℝ) ≤ r * 2 ^ 149 ∧
      r * 2 ^ 149 ≤ F32.scaled (m + 1) ∧
      (F32.choose split v lo hi near = m ∨ F32.choose split v lo hi near = m + 1) by
    obtain ⟨m, hm, hmlo, hmhi, hc⟩ := hm
    refine ⟨m, hm, ?_, ?_, hc⟩
    · rwa [F32.toReal_pack_false ((Nat.le_succ m).trans (hm.trans hcap)), div_le_iff₀ (by positivity)]
    · rwa [F32.toReal_pack_false (hm.trans hcap), le_div_iff₀ (by positivity)]
  rcases F32.choose_cases split v lo hi near with ⟨hwide, hc⟩ | ⟨hnarrow, hc⟩
  · obtain rfl : hi = lo + 2 := by omega
    rcases le_total (r * 2 ^ 149) (F32.scaled (lo + 1) : ℝ) with hle | hge
    · exact ⟨lo, hltone, hlo, hle, .inr hc⟩
    · exact ⟨lo + 1, hone, hge, hhi, .inl hc⟩
  · have hle : (F32.scaled hi : ℝ) ≤ F32.scaled (lo + 1) :=
      Nat.cast_le.2 (F32.scaled_le_scaled.2 hnarrow)
    refine ⟨lo, hltone, hlo, hhi.trans hle, ?_⟩
    rcases hlohi.eq_or_lt with heq | hlt
    · exact .inl (hc.elim id fun h => h.trans heq.symm)
    · exact hc.imp id fun h => by omega

/-- A choice grows with the bracket and the argument. -/
theorem F32.choose_mono (split : F32 → Split) {v v' : F32} {lo hi near lo' hi' near' : Nat}
    (hv : F32.le v v' = true) (hlo : lo ≤ lo') (hhi : hi ≤ hi') (hnear : near ≤ near') (h : lo ≤ hi)
    (h' : lo' ≤ hi') (hnear' : near' ≤ hi') :
    F32.choose split v lo hi near ≤ F32.choose split v' lo' hi' near' := by
  obtain ⟨hlower, -⟩ := F32.choose_mem split v' near' h'
  rcases F32.choose_cases split v lo hi near with ⟨hwide, hc⟩ | ⟨hnarrow, hc⟩
  · rcases F32.choose_cases split v' lo' hi' near' with ⟨-, hc'⟩ | ⟨hnarrow', -⟩ <;> omega
  · rcases F32.choose_cases split v' lo' hi' near' with ⟨-, hc'⟩ | ⟨hnarrow', -⟩
    · omega
    · rcases hlo.lt_or_eq with hlt | rfl
      · omega
      · unfold F32.choose
        rw [if_neg (Nat.not_lt.2 hnarrow), if_neg (Nat.not_lt.2 hnarrow')]
        cases split (F32.pack false lo) with
        | nearest =>
          dsimp only
          split <;> split <;> omega
        | upperFrom t =>
          dsimp only
          by_cases ht : F32.le t v = true
          · rw [if_pos ht, if_pos (F32.le_trans ht hv)]
            exact hhi
          · rw [if_neg ht]
            split <;> omega

/-! ### The bracket of EXP -/

theorem F32.expScaled_pos (up X : Nat) : 0 < F32.expScaled up X :=
  expUnit_pos.trans_le (F32.le_expScaled up X)

theorem two_pow_149_le_exp_128 : (2 : ℝ) ^ 149 ≤ Real.exp 128 := by
  have he : (2.7 : ℝ) < Real.exp 1 := (by norm_num : (2.7 : ℝ) < 2.7182818283).trans Real.exp_one_gt_d9
  calc (2 : ℝ) ^ 149 ≤ 2.7 ^ 128 := by norm_num
    _ ≤ Real.exp 1 ^ 128 := by gcongr
    _ = Real.exp 128 := by rw [← Real.exp_nat_mul]; norm_num

theorem exp_neg_mul_le_one {x : ℝ} (hx : 128 ≤ x) : Real.exp (-x) * 2 ^ 149 ≤ 1 := by
  rw [Real.exp_neg, inv_mul_le_iff₀ (Real.exp_pos _), mul_one]
  exact two_pow_149_le_exp_128.trans (Real.exp_le_exp.2 hx)

/-- The two bounds on an exponential, inverted, are less than `2^-149` apart. -/
theorem inv_bounds_close {B e e' : ℝ} (hB : 0 < B) (he : B ≤ e) (he' : B ≤ e')
    (hle : e' ≤ e * (1 + 1 / 2 ^ 612)) : B * 2 ^ 149 / e < B * 2 ^ 149 / e' + 1 := by
  have hinv : B / e ≤ B / e' * (1 + 1 / 2 ^ 612) := by
    rw [div_mul_eq_mul_div, div_le_div_iff₀ (by linarith) (by linarith), mul_assoc, mul_comm _ e]
    gcongr
  have hone : B / e' ≤ 1 := (div_le_one (by linarith)).2 he'
  have hδ : (1 : ℝ) / 2 ^ 612 * 2 ^ 149 < 1 := by
    rw [show (612 : Nat) = 463 + 149 from rfl, pow_add, ← div_div, div_mul_cancel₀ _ (by positivity)]
    exact (div_lt_one (by positivity)).2 (one_lt_pow₀ (by norm_num) (by norm_num))
  have hδ0 : (0 : ℝ) ≤ 1 / 2 ^ 612 := by positivity
  generalize (1 : ℝ) / 2 ^ 612 = δ at *
  rw [mul_div_right_comm, mul_div_right_comm]
  nlinarith

theorem F32.cast_le_expScaled (up X : Nat) : (2 : ℝ) ^ 640 ≤ F32.expScaled up X := by
  rw [← cast_two_pow]
  exact Nat.cast_le.2 (F32.le_expScaled up X)

/-- EXP's bracket encloses `e^-x`, is narrow and ends at 1.0 at most. -/
theorem F32.brackets_exp (X : Nat) :
    F32.Brackets (Real.exp (-(X / 2 ^ 149))) (F32.expLo X) (F32.expHi X) (F32.expNear X) := by
  unfold F32.expLo F32.expHi F32.expNear
  split
  · next hX =>
    have hx : (128 : ℝ) ≤ X / 2 ^ 149 := by
      rw [le_div_iff₀ (by positivity)]
      exact_mod_cast hX
    have hone : F32.scaled 1 = 1 := by decide
    refine ⟨?_, ?_, by decide, by omega, by omega⟩
    · rw [F32.scaled_zero, Nat.cast_zero]
      positivity
    · rw [hone, Nat.cast_one]
      exact exp_neg_mul_le_one hx
  · next hX =>
    have hlow := F32.expScaled_zero_le X
    have hupp := F32.le_expScaled_one (Nat.not_le.1 hX).le
    have hcast : ((2 ^ 640 * 2 ^ 149 : Nat) : ℝ) = 2 ^ 640 * 2 ^ 149 := by
      rw [Nat.cast_mul, cast_two_pow, cast_two_pow]
    have hinv : Real.exp (-(X / 2 ^ 149)) * 2 ^ 149 =
        2 ^ 640 * 2 ^ 149 / (2 ^ 640 * Real.exp (X / 2 ^ 149)) := by
      rw [mul_div_mul_left _ _ (by positivity), Real.exp_neg, inv_mul_eq_div]
    have hpos : (0 : ℝ) < F32.expScaled 0 X := Nat.cast_pos.2 (F32.expScaled_pos 0 X)
    apply F32.brackets_of_bounds (F32.expScaled_pos 1 X) (F32.expScaled_pos 0 X)
    · rw [hcast, hinv]
      exact div_le_div_of_nonneg_left (by positivity) (by positivity) hupp
    · rw [hcast, hinv]
      exact div_le_div_of_nonneg_left (by positivity) hpos hlow
    · rw [hcast]
      exact inv_bounds_close (by positivity) (F32.cast_le_expScaled 0 X) (F32.cast_le_expScaled 1 X)
        (F32.expScaled_one_le (Nat.not_le.1 hX).le)
    · rw [Nat.mul_comm]
      exact Nat.mul_le_mul_left _ (F32.le_expScaled 0 X)
    · exact F32.roundNearest_le_roundUp (F32.expScaled_pos 0 X)

/-- EXP's bracket falls as `x` grows. -/
theorem F32.expBracket_anti {X X' : Nat} (h : X' ≤ X) :
    F32.expLo X ≤ F32.expLo X' ∧ F32.expHi X ≤ F32.expHi X' ∧ F32.expNear X ≤ F32.expNear X' := by
  by_cases hX : 128 * 2 ^ 149 ≤ X
  · have hlo : F32.expLo X = 0 := if_pos hX
    have hhi : F32.expHi X = 1 := if_pos hX
    have hnear : F32.expNear X = 0 := if_pos hX
    have hpos := (F32.brackets_exp X').hi_pos (Real.exp_pos _)
    omega
  · have hX' : ¬128 * 2 ^ 149 ≤ X' := fun hle => hX (hle.trans h)
    have hcross := fun up => Nat.mul_le_mul_left (2 ^ 640 * 2 ^ 149) (F32.expScaled_mono up h)
    unfold F32.expLo F32.expHi F32.expNear
    simp only [if_neg hX, if_neg hX']
    exact ⟨F32.roundDown_mono (F32.expScaled_pos 1 X) (F32.expScaled_pos 1 X') (hcross 1),
      F32.roundUp_mono (F32.expScaled_pos 0 X) (F32.expScaled_pos 0 X') (hcross 0),
      F32.roundNearest_mono (F32.expScaled_pos 0 X) (F32.expScaled_pos 0 X') (hcross 0)⟩

/-! ### The bracket of TANH -/

theorem tanh_eq_exp_two_mul (x : ℝ) :
    Real.tanh x = (Real.exp (2 * x) - 1) / (Real.exp (2 * x) + 1) := by
  have hx : Real.exp x * Real.exp (-x) = 1 := by rw [← Real.exp_add, add_neg_cancel, Real.exp_zero]
  rw [Real.tanh_eq, two_mul, Real.exp_add, ← mul_div_mul_left _ _ (Real.exp_pos x).ne',
    mul_sub, mul_add, hx]

/-- `(e - B)/(e + B)` grows with `e`. -/
theorem tanhRatio_mono {B e e' : ℝ} (hB : 0 < B) (he : 0 ≤ e) (hle : e ≤ e') :
    (e - B) / (e + B) ≤ (e' - B) / (e' + B) := by
  rw [div_le_div_iff₀ (by linarith) (by linarith)]
  nlinarith

/-- The same in whole numbers, as a rounding compares the quotients. -/
theorem tanhRatio_cross {B e e' : Nat} (he : B ≤ e) (hle : e ≤ e') :
    (e - B) * 2 ^ 149 * (e' + B) ≤ (e' - B) * 2 ^ 149 * (e + B) := by
  obtain ⟨a, rfl⟩ := Nat.exists_eq_add_of_le he
  obtain ⟨a', rfl⟩ := Nat.exists_eq_add_of_le (he.trans hle)
  have ha : a ≤ a' := Nat.le_of_add_le_add_left hle
  rw [Nat.add_sub_cancel_left, Nat.add_sub_cancel_left]
  nlinarith [Nat.mul_le_mul_right B ha]

/-- The two bounds on an exponential give ratios less than `2^-149` apart. -/
theorem tanhRatio_close {B e e' : ℝ} (hB : 0 < B) (he : B ≤ e) (he' : B ≤ e')
    (hle : e' ≤ e * (1 + 1 / 2 ^ 612)) :
    (e' - B) * 2 ^ 149 / (e' + B) < (e - B) * 2 ^ 149 / (e + B) + 1 := by
  have hcompl : ∀ x : ℝ, B ≤ x → (x - B) * 2 ^ 149 / (x + B) = 2 ^ 149 - 2 * B * 2 ^ 149 / (x + B) :=
    fun x hx => by
      have hne : x + B ≠ 0 := by linarith
      rw [eq_sub_iff_add_eq, ← add_div, div_eq_iff hne]
      ring
  have hrel : e' + B ≤ (e + B) * (1 + 1 / 2 ^ 612) := by
    rw [add_mul]
    exact add_le_add hle (le_mul_of_one_le_right hB.le (le_add_of_nonneg_right (by positivity)))
  have hclose := inv_bounds_close (B := 2 * B) (by linarith) (by linarith) (by linarith) hrel
  rw [hcompl e he, hcompl e' he']
  linarith

theorem F32.tanh_denom_pos (up X : Nat) : 0 < F32.expScaled up (2 * X) + 2 ^ 640 :=
  Nat.add_pos_right _ expUnit_pos

theorem F32.expScaled_zero_le_one {X : Nat} (hX : X ≤ 128 * 2 ^ 149) :
    F32.expScaled 0 X ≤ F32.expScaled 1 X := by
  have hle := (F32.expScaled_zero_le X).trans (F32.le_expScaled_one hX)
  exact_mod_cast hle

/-- TANH's quotient as a real number. -/
theorem F32.cast_tanhRatio (up X : Nat) :
    (((F32.expScaled up X - 2 ^ 640) * 2 ^ 149 : Nat) : ℝ) / (F32.expScaled up X + 2 ^ 640 : Nat) =
      (F32.expScaled up X - 2 ^ 640) * 2 ^ 149 / (F32.expScaled up X + 2 ^ 640) := by
  rw [Nat.cast_mul, Nat.cast_sub (F32.le_expScaled up X), Nat.cast_add, cast_two_pow, cast_two_pow]

/-- From 64 on, TANH's result lies between 1.0 and the value below it. -/
theorem le_tanh_of_le {x : ℝ} (hx : 64 ≤ x) : 1 - 1 / 2 ^ 24 ≤ Real.tanh x := by
  have hexp : (2 : ℝ) ^ 149 ≤ Real.exp (2 * x) :=
    two_pow_149_le_exp_128.trans (Real.exp_le_exp.2 (by linarith))
  rw [tanh_eq_exp_two_mul]
  calc (1 - 1 / 2 ^ 24 : ℝ) ≤ (2 ^ 149 - 1) / (2 ^ 149 + 1) := by norm_num
    _ ≤ (Real.exp (2 * x) - 1) / (Real.exp (2 * x) + 1) := tanhRatio_mono one_pos (by positivity) hexp

/-- TANH's bracket encloses `tanh x`, is narrow and ends at 1.0 at most. -/
theorem F32.brackets_tanh (X : Nat) :
    F32.Brackets (Real.tanh (X / 2 ^ 149)) (F32.tanhLo X) (F32.tanhHi X) (F32.tanhNear X) := by
  unfold F32.tanhLo F32.tanhHi F32.tanhNear
  split
  · next hX =>
    have hx : (64 : ℝ) ≤ X / 2 ^ 149 := by
      rw [le_div_iff₀ (by positivity)]
      exact_mod_cast hX
    have hpred : F32.scaled (F32.oneMag - 1) = 2 ^ 149 - 2 ^ 125 := by decide +kernel
    have htop := Real.tanh_lt_one (X / 2 ^ 149)
    refine ⟨?_, ?_, by omega, by omega, by omega⟩
    · rw [hpred, Nat.cast_sub (Nat.pow_le_pow_right two_pos (by norm_num)), cast_two_pow, cast_two_pow]
      linarith [le_tanh_of_le hx]
    · rw [F32.scaled_oneMag, cast_two_pow]
      linarith
  · next hX =>
    have hB : (0 : ℝ) < 2 ^ 640 := by positivity
    have hX2 : 2 * X ≤ 128 * 2 ^ 149 := by omega
    have hlow := F32.expScaled_zero_le (2 * X)
    have hupp := F32.le_expScaled_one hX2
    have htanh : Real.tanh (X / 2 ^ 149) * 2 ^ 149 =
        (2 ^ 640 * Real.exp ((2 * X : Nat) / 2 ^ 149) - 2 ^ 640) /
          (2 ^ 640 * Real.exp ((2 * X : Nat) / 2 ^ 149) + 2 ^ 640) * 2 ^ 149 := by
      rw [tanh_eq_exp_two_mul, Nat.cast_mul, Nat.cast_ofNat, mul_div_assoc,
        ← mul_div_mul_left _ _ hB.ne', mul_sub, mul_add, mul_one]
    apply F32.brackets_of_bounds (F32.tanh_denom_pos 0 X) (F32.tanh_denom_pos 1 X)
    · rw [F32.cast_tanhRatio, htanh, mul_div_right_comm]
      exact mul_le_mul_of_nonneg_right (tanhRatio_mono hB (Nat.cast_nonneg _) hlow) (by positivity)
    · rw [F32.cast_tanhRatio, htanh, mul_div_right_comm]
      exact mul_le_mul_of_nonneg_right (tanhRatio_mono hB (by positivity) hupp) (by positivity)
    · rw [F32.cast_tanhRatio, F32.cast_tanhRatio]
      exact tanhRatio_close hB (F32.cast_le_expScaled 0 _) (F32.cast_le_expScaled 1 _)
        (F32.expScaled_one_le hX2)
    · rw [Nat.mul_comm]
      exact Nat.mul_le_mul_left _ ((Nat.sub_le _ _).trans (Nat.le_add_right _ _))
    · refine (F32.roundNearest_le_roundUp (F32.tanh_denom_pos 0 X)).trans ?_
      exact F32.roundUp_mono (F32.tanh_denom_pos 0 X) (F32.tanh_denom_pos 1 X)
        (tanhRatio_cross (F32.le_expScaled 0 _) (F32.expScaled_zero_le_one hX2))

/-- TANH's bracket grows with `x`. -/
theorem F32.tanhBracket_mono {X X' : Nat} (h : X ≤ X') :
    F32.tanhLo X ≤ F32.tanhLo X' ∧ F32.tanhHi X ≤ F32.tanhHi X' ∧
      F32.tanhNear X ≤ F32.tanhNear X' := by
  by_cases hX' : 64 * 2 ^ 149 ≤ X'
  · have hlo : F32.tanhLo X' = F32.oneMag - 1 := if_pos hX'
    have hhi : F32.tanhHi X' = F32.oneMag := if_pos hX'
    have hnear : F32.tanhNear X' = F32.oneMag := if_pos hX'
    have hbr := F32.brackets_tanh X
    have hlt := hbr.lo_lt_one (Real.tanh_lt_one _)
    have hone := hbr.hi_le_one
    have hle := hbr.near_le
    omega
  · have hX : ¬64 * 2 ^ 149 ≤ X := fun hle => hX' (hle.trans h)
    have hcross := fun up => tanhRatio_cross (F32.le_expScaled up (2 * X))
      (F32.expScaled_mono up (Nat.mul_le_mul_left 2 h))
    unfold F32.tanhLo F32.tanhHi F32.tanhNear
    simp only [if_neg hX, if_neg hX']
    exact ⟨F32.roundDown_mono (F32.tanh_denom_pos 0 X) (F32.tanh_denom_pos 0 X') (hcross 0),
      F32.roundUp_mono (F32.tanh_denom_pos 1 X) (F32.tanh_denom_pos 1 X') (hcross 1),
      F32.roundNearest_mono (F32.tanh_denom_pos 0 X) (F32.tanh_denom_pos 0 X') (hcross 0)⟩

end Sys2Proof
end

section
/-! PROOFS. EXP and TANH as signs and magnitude bits, and their properties (R9, R10). -/

namespace Sys2Proof

/-! ### The order of packed values -/

theorem F32.isNaN_pack (s : Bool) {m : Nat} (hm : m ≤ F32.infMag) : F32.isNaN (F32.pack s m) = false := by
  rw [← Bool.not_eq_true, F32.isNaN_iff, F32.mag_pack s (F32.lt_two_pow_of_le_infMag hm)]
  exact Nat.not_lt.2 hm

/-- The order of packed values is the order of their integers. -/
theorem F32.le_pack_iff {s s' : Bool} {m m' : Nat} (hm : m ≤ F32.infMag) (hm' : m' ≤ F32.infMag) :
    F32.le (F32.pack s m) (F32.pack s' m') = true ↔
      (if s then -(F32.scaled m : Int) else F32.scaled m) ≤
        (if s' then -(F32.scaled m' : Int) else F32.scaled m') := by
  rw [F32.le_iff, F32.isNaN_pack s hm, F32.isNaN_pack s' hm',
    F32.toInt_pack s (F32.lt_two_pow_of_le_infMag hm), F32.toInt_pack s' (F32.lt_two_pow_of_le_infMag hm')]
  simp

theorem F32.le_pack_false_iff {m m' : Nat} (hm : m ≤ F32.infMag) (hm' : m' ≤ F32.infMag) :
    F32.le (F32.pack false m) (F32.pack false m') = true ↔ m ≤ m' := by
  rw [F32.le_pack_iff hm hm']
  simp [F32.scaled_le_scaled]

theorem F32.zero_eq_pack : 0x00000000#32 = F32.pack false 0 := by decide

theorem F32.one_eq_pack : 0x3F800000#32 = F32.pack false F32.oneMag := by decide

theorem F32.neg_one_eq_pack : 0xBF800000#32 = F32.pack true F32.oneMag := by decide

/-- Magnitude bits up to those of 1.0 are values in `[-1, 1]`. -/
theorem F32.pack_mem_range (s : Bool) {m : Nat} (hm : m ≤ F32.oneMag) :
    F32.le 0xBF800000#32 (F32.pack s m) = true ∧ F32.le (F32.pack s m) 0x3F800000#32 = true := by
  have hone := F32.oneMag_lt_infMag.le
  have hle := F32.scaled_le_scaled.2 hm
  rw [F32.neg_one_eq_pack, F32.one_eq_pack, F32.le_pack_iff hone (hm.trans hone),
    F32.le_pack_iff (hm.trans hone) hone]
  cases s <;> simp only [if_true, Bool.false_eq_true, if_false] <;> omega

/-- A growing map of magnitude bits that keeps zero gives a growing odd map of values. -/
theorem F32.le_pack_of_mono {f : Nat → Nat} (hmono : ∀ m m', m ≤ m' → m' ≤ F32.infMag → f m ≤ f m')
    (hzero : f 0 = 0) (hf : ∀ m, f m ≤ F32.infMag) {u v : F32} (h : F32.le u v = true) :
    F32.le (F32.pack (F32.sign u) (f (F32.mag u))) (F32.pack (F32.sign v) (f (F32.mag v))) = true := by
  obtain ⟨hu, hv, hint⟩ := F32.le_iff.1 h
  rw [← Bool.not_eq_true, F32.isNaN_iff, Nat.not_lt] at hu hv
  rw [F32.le_pack_iff (hf _) (hf _)]
  unfold F32.toInt at hint
  cases hsu : F32.sign u <;> cases hsv : F32.sign v <;>
    simp only [hsu, hsv, if_true, Bool.false_eq_true, if_false] at hint ⊢
  · have hmag := F32.scaled_le_scaled.1 (Int.ofNat_le.1 hint)
    exact Int.ofNat_le.2 (F32.scaled_le_scaled.2 (hmono _ _ hmag hv))
  · have hu0 : F32.mag u = 0 := F32.scaled_eq_zero.1 (by omega)
    have hv0 : F32.mag v = 0 := F32.scaled_eq_zero.1 (by omega)
    rw [hu0, hv0, hzero, F32.scaled_zero]
    decide
  · omega
  · have hmag := F32.scaled_le_scaled.1 (Int.ofNat_le.1 (neg_le_neg_iff.1 hint))
    exact neg_le_neg (Int.ofNat_le.2 (F32.scaled_le_scaled.2 (hmono _ _ hmag hu)))

/-! ### EXP (R9) -/

/-- The choice EXP makes at a negative argument, as magnitude bits. -/
def F32.expChoice (split : F32 → Split) (v : F32) : Nat :=
  F32.choose split v (F32.expLo (F32.scaled (F32.mag v))) (F32.expHi (F32.scaled (F32.mag v)))
    (F32.expNear (F32.scaled (F32.mag v)))

theorem F32.exp_of_mag_eq_zero (split : F32 → Split) {v : F32} (h : F32.mag v = 0) :
    F32.exp split v = F32.pack false F32.oneMag := by
  have hfin : F32.isFinite v = true := by rw [F32.isFinite_iff, h]; decide
  have hint : F32.toInt v ≤ 0 := by unfold F32.toInt; rw [h]; simp
  simp [F32.exp, hfin, hint, h]

theorem F32.exp_of_neg (split : F32 → Split) {v : F32} (hfin : F32.isFinite v = true)
    (hint : F32.toInt v ≤ 0) (h : F32.mag v ≠ 0) :
    F32.exp split v = F32.pack false (F32.expChoice split v) := by
  simp [F32.exp, hfin, hint, F32.scaled_eq_zero, h, F32.expChoice]

theorem F32.toInt_zero : F32.toInt 0x00000000#32 = 0 := by decide

/-- A value not above zero is the negated magnitude. -/
theorem F32.toInt_of_nonpos {v : F32} (h : F32.toInt v ≤ 0) :
    F32.toInt v = -(F32.scaled (F32.mag v) : Int) := by
  unfold F32.toInt at *
  split at h <;> simp_all

theorem F32.toInt_nonpos_of_le {v : F32} (h : F32.le v 0x00000000#32 = true) : F32.toInt v ≤ 0 := by
  have hle := (F32.le_iff.1 h).2.2
  rwa [F32.toInt_zero] at hle

theorem F32.expChoice_le_one (split : F32 → Split) (v : F32) : F32.expChoice split v ≤ F32.oneMag := by
  have hbr := F32.brackets_exp (F32.scaled (F32.mag v))
  exact (F32.choose_mem split v _ hbr.lo_le_hi).2.trans hbr.hi_le_one

/-- EXP of a finite value not above zero packs magnitude bits up to those of 1.0. -/
theorem F32.exists_exp_eq_pack (split : F32 → Split) {v : F32} (hfin : F32.isFinite v = true)
    (hle : F32.le v 0x00000000#32 = true) :
    ∃ m ≤ F32.oneMag, F32.exp split v = F32.pack false m := by
  by_cases h0 : F32.mag v = 0
  · exact ⟨_, le_rfl, F32.exp_of_mag_eq_zero split h0⟩
  · exact ⟨_, F32.expChoice_le_one split v, F32.exp_of_neg split hfin (F32.toInt_nonpos_of_le hle) h0⟩

/-- Settles O45: EXP packs 1.0 at a zero, and magnitude bits up to those of 1.0 elsewhere. -/
theorem expIsOneAtZeroAndInRange : Obligations.ExpIsOneAtZeroAndInRange := by
  intro split
  refine ⟨?_, ?_, fun v hfin hle => ?_⟩
  · rw [F32.exp_of_mag_eq_zero split (by decide), F32.one_eq_pack]
  · rw [F32.exp_of_mag_eq_zero split (by decide), F32.one_eq_pack]
  · obtain ⟨m, hm, hexp⟩ := F32.exists_exp_eq_pack split hfin hle
    have hone := F32.oneMag_lt_infMag.le
    rw [hexp, F32.zero_eq_pack, F32.one_eq_pack, F32.le_pack_false_iff (Nat.zero_le _) (hm.trans hone),
      F32.le_pack_false_iff (hm.trans hone) hone]
    exact ⟨Nat.zero_le m, hm⟩

/-- A finite value below zero: its integer, its magnitude and its real value. -/
theorem F32.neg_facts {v : F32} (h : F32.lt v 0x00000000#32 = true) :
    F32.toInt v ≤ 0 ∧ F32.mag v ≠ 0 ∧ F32.toReal v = -(F32.scaled (F32.mag v) / 2 ^ 149) := by
  have hlt := (F32.lt_iff.1 h).2.2
  rw [F32.toInt_zero] at hlt
  have hint := F32.toInt_of_nonpos hlt.le
  refine ⟨hlt.le, fun h0 => ?_, ?_⟩
  · rw [hint, h0] at hlt
    exact absurd hlt (by decide)
  · rw [F32.toReal, hint, Int.cast_neg, Int.cast_natCast, neg_div]

/-- R9, EXP-FAITHFUL. -/
theorem F32.exp_faithful (split : F32 → Split) {v : F32} (hfin : F32.isFinite v = true)
    (h : F32.lt v 0x00000000#32 = true) :
    ∃ m : Nat, m + 1 ≤ F32.oneMag ∧
      F32.toReal (F32.pack false m) ≤ Real.exp (F32.toReal v) ∧
      Real.exp (F32.toReal v) ≤ F32.toReal (F32.pack false (m + 1)) ∧
      (F32.exp split v = F32.pack false m ∨ F32.exp split v = F32.pack false (m + 1)) := by
  obtain ⟨hint, hmag, hreal⟩ := F32.neg_facts h
  have hX : (0 : ℝ) < F32.scaled (F32.mag v) / 2 ^ 149 :=
    div_pos (Nat.cast_pos.2 (Nat.pos_of_ne_zero (mt F32.scaled_eq_zero.1 hmag))) (by positivity)
  have hlt : Real.exp (-(F32.scaled (F32.mag v) / 2 ^ 149)) < 1 := Real.exp_lt_one_iff.2 (neg_neg_of_pos hX)
  obtain ⟨m, hm, hlo, hhi, hc⟩ := (F32.brackets_exp (F32.scaled (F32.mag v))).choose_faithful hlt split v
  refine ⟨m, hm, hreal ▸ hlo, hreal ▸ hhi, ?_⟩
  rw [F32.exp_of_neg split hfin hint hmag]
  exact hc.imp (congrArg _) (congrArg _)

/-- R9, EXP-MONO. -/
theorem F32.exp_mono (split : F32 → Split) {u v : F32} (hu : F32.isFinite u = true)
    (hv : F32.isFinite v = true) (huv : F32.le u v = true) (hle : F32.le v 0x00000000#32 = true) :
    F32.le (F32.exp split u) (F32.exp split v) = true := by
  have hone := F32.oneMag_lt_infMag.le
  have hvint := F32.toInt_nonpos_of_le hle
  have huint := F32.toInt_nonpos_of_le (F32.le_trans huv hle)
  by_cases hv0 : F32.mag v = 0
  · obtain ⟨m, hm, hexp⟩ := F32.exists_exp_eq_pack split hu (F32.le_trans huv hle)
    rw [hexp, F32.exp_of_mag_eq_zero split hv0, F32.le_pack_false_iff (hm.trans hone) hone]
    exact hm
  · have hscaled : F32.scaled (F32.mag v) ≤ F32.scaled (F32.mag u) := by
      have hint := (F32.le_iff.1 huv).2.2
      rw [F32.toInt_of_nonpos huint, F32.toInt_of_nonpos hvint] at hint
      omega
    have hu0 : F32.mag u ≠ 0 := fun h0 =>
      hv0 (Nat.le_zero.1 (h0 ▸ F32.scaled_le_scaled.1 hscaled))
    rw [F32.exp_of_neg split hu huint hu0, F32.exp_of_neg split hv hvint hv0,
      F32.le_pack_false_iff ((F32.expChoice_le_one split u).trans hone)
        ((F32.expChoice_le_one split v).trans hone)]
    obtain ⟨hlo, hhi, hnear⟩ := F32.expBracket_anti hscaled
    have hbr := F32.brackets_exp (F32.scaled (F32.mag v))
    exact F32.choose_mono split huv hlo hhi hnear (F32.brackets_exp _).lo_le_hi hbr.lo_le_hi hbr.near_le

/-- Settles O46: EXP's bracket encloses the real result, is at most two wide, and grows with
the argument. -/
theorem expIsFaithfulAndMonotone : Obligations.ExpIsFaithfulAndMonotone :=
  ⟨fun split _ hfin h => F32.exp_faithful split hfin h,
    fun split _ _ hu hv huv hle => F32.exp_mono split hu hv huv hle,
    fun v _ _ =>
      have hbr := F32.brackets_exp (F32.scaled (F32.mag v))
      ⟨hbr.lo_le_hi, hbr.width⟩⟩

/-! ### TANH (R10) -/

/-- TANH on magnitude bits. -/
def F32.tanhMag (split : F32 → Split) (m : Nat) : Nat :=
  if m = F32.infMag then F32.oneMag
  else if m = 0 then 0
  else F32.choose split (F32.pack false m) (F32.tanhLo (F32.scaled m)) (F32.tanhHi (F32.scaled m))
    (F32.tanhNear (F32.scaled m))

theorem F32.tanhMag_infMag (split : F32 → Split) : F32.tanhMag split F32.infMag = F32.oneMag := if_pos rfl

theorem F32.tanhMag_zero (split : F32 → Split) : F32.tanhMag split 0 = 0 := by
  simp [F32.tanhMag, F32.infMag]

theorem F32.tanhMag_of_ne (split : F32 → Split) {m : Nat} (hinf : m ≠ F32.infMag) (h0 : m ≠ 0) :
    F32.tanhMag split m = F32.choose split (F32.pack false m) (F32.tanhLo (F32.scaled m))
      (F32.tanhHi (F32.scaled m)) (F32.tanhNear (F32.scaled m)) := by
  rw [F32.tanhMag, if_neg hinf, if_neg h0]

theorem F32.abs_eq_pack (v : F32) : F32.abs v = F32.pack false (F32.mag v) := by
  apply BitVec.eq_of_toNat_eq
  rw [F32.toNat_pack false (F32.mag_lt v), F32.abs, BitVec.toNat_and]
  simpa [F32.mag] using Nat.and_two_pow_sub_one_eq_mod v.toNat 31

/-- TANH keeps the sign (TANH-ODD). -/
theorem F32.tanh_eq_pack (split : F32 → Split) {v : F32} (h : F32.isNaN v = false) :
    F32.tanh split v = F32.pack (F32.sign v) (F32.tanhMag split (F32.mag v)) := by
  by_cases hinf : F32.mag v = F32.infMag
  · have hinf' : F32.isInf v = true := F32.isInf_iff v |>.2 hinf
    simp [F32.tanh, h, hinf', hinf, F32.tanhMag_infMag]
  · have hinf' : F32.isInf v = false := decide_eq_false hinf
    by_cases h0 : F32.mag v = 0
    · have hself : F32.pack (F32.sign v) 0 = v := h0 ▸ F32.pack_sign_mag v
      simp [F32.tanh, h, hinf', h0, F32.tanhMag_zero, hself]
    · simp [F32.tanh, h, hinf', h0, F32.scaled_eq_zero, F32.tanhMag_of_ne split hinf h0, F32.abs_eq_pack]

theorem F32.tanh_of_mag_eq_zero (split : F32 → Split) {v : F32} (h : F32.mag v = 0) :
    F32.tanh split v = v := by
  have hnum : F32.isNaN v = false := by rw [F32.isNaN, h]; decide
  rw [F32.tanh_eq_pack split hnum, h, F32.tanhMag_zero, ← h, F32.pack_sign_mag]

theorem F32.tanh_of_mag_eq_infMag (split : F32 → Split) {v : F32} (h : F32.mag v = F32.infMag) :
    F32.tanh split v = F32.pack (F32.sign v) F32.oneMag := by
  have hnum : F32.isNaN v = false := by rw [F32.isNaN, h]; decide
  rw [F32.tanh_eq_pack split hnum, h, F32.tanhMag_infMag]

theorem F32.tanhMag_le_one (split : F32 → Split) (m : Nat) : F32.tanhMag split m ≤ F32.oneMag := by
  by_cases hinf : m = F32.infMag
  · rw [hinf, F32.tanhMag_infMag]
  · by_cases h0 : m = 0
    · rw [h0, F32.tanhMag_zero]
      exact Nat.zero_le _
    · have hbr := F32.brackets_tanh (F32.scaled m)
      rw [F32.tanhMag_of_ne split hinf h0]
      exact (F32.choose_mem split _ _ hbr.lo_le_hi).2.trans hbr.hi_le_one

theorem F32.tanhMag_mono (split : F32 → Split) (m m' : Nat) (h : m ≤ m') (hm' : m' ≤ F32.infMag) :
    F32.tanhMag split m ≤ F32.tanhMag split m' := by
  by_cases hinf' : m' = F32.infMag
  · rw [hinf', F32.tanhMag_infMag]
    exact F32.tanhMag_le_one split m
  · by_cases h0 : m = 0
    · rw [h0, F32.tanhMag_zero]
      exact Nat.zero_le _
    · rw [F32.tanhMag_of_ne split (by omega) h0, F32.tanhMag_of_ne split hinf' (by omega)]
      obtain ⟨hlo, hhi, hnear⟩ := F32.tanhBracket_mono (F32.scaled_le_scaled.2 h)
      have hbr := F32.brackets_tanh (F32.scaled m')
      exact F32.choose_mono split ((F32.le_pack_false_iff (h.trans hm') hm').2 h) hlo hhi hnear
        (F32.brackets_tanh _).lo_le_hi hbr.lo_le_hi hbr.near_le

/-- Settles O47: TANH packs the operand's sign with magnitude bits up to those of 1.0. -/
theorem tanhIsOddAndInRange : Obligations.TanhIsOddAndInRange := by
  intro split
  refine ⟨?_, ?_, ?_, ?_, fun v => ⟨fun hnan => ?_, fun hnum => ⟨?_, ?_⟩⟩⟩
  · exact F32.tanh_of_mag_eq_zero split (by decide)
  · exact F32.tanh_of_mag_eq_zero split (by decide)
  · exact (F32.tanh_of_mag_eq_infMag split (by decide)).trans (by decide)
  · exact (F32.tanh_of_mag_eq_infMag split (by decide)).trans (by decide)
  · rw [F32.tanh, if_pos hnan]
    exact F32.isNaN_nan 3 v v
  · have hneg : F32.isNaN (F32.neg v) = false := by rwa [F32.isNaN, F32.mag_neg]
    have hm := (F32.tanhMag_le_one split (F32.mag v)).trans_lt F32.oneMag_lt
    rw [F32.tanh_eq_pack split hneg, F32.tanh_eq_pack split hnum, F32.sign_neg, F32.mag_neg,
      F32.neg_pack _ hm]
  · rw [F32.tanh_eq_pack split hnum]
    exact F32.pack_mem_range _ (F32.tanhMag_le_one split _)

/-- A value above zero: its sign, its magnitude and its real value. -/
theorem F32.pos_facts {v : F32} (h : F32.lt 0x00000000#32 v = true) :
    F32.sign v = false ∧ F32.mag v ≠ 0 ∧ F32.toReal v = F32.scaled (F32.mag v) / 2 ^ 149 := by
  have hlt := (F32.lt_iff.1 h).2.2
  rw [F32.toInt_zero] at hlt
  have hsign : F32.sign v = false := by
    by_contra hs
    rw [Bool.not_eq_false] at hs
    rw [F32.toInt, if_pos hs] at hlt
    omega
  refine ⟨hsign, fun h0 => ?_, ?_⟩
  · simp [F32.toInt, h0] at hlt
  · simp [F32.toReal, F32.toInt, hsign]

/-- R10, TANH-FAITHFUL. -/
theorem F32.tanh_faithful (split : F32 → Split) {v : F32} (hfin : F32.isFinite v = true)
    (h : F32.lt 0x00000000#32 v = true) :
    ∃ m : Nat, m + 1 ≤ F32.oneMag ∧
      F32.toReal (F32.pack false m) ≤ Real.tanh (F32.toReal v) ∧
      Real.tanh (F32.toReal v) ≤ F32.toReal (F32.pack false (m + 1)) ∧
      (F32.tanh split v = F32.pack false m ∨ F32.tanh split v = F32.pack false (m + 1)) := by
  obtain ⟨hsign, hmag, hreal⟩ := F32.pos_facts h
  have hinf : F32.mag v ≠ F32.infMag := ((F32.isFinite_iff v).1 hfin).ne
  obtain ⟨m, hm, hlo, hhi, hc⟩ := (F32.brackets_tanh (F32.scaled (F32.mag v))).choose_faithful
    (Real.tanh_lt_one _) split (F32.pack false (F32.mag v))
  refine ⟨m, hm, hreal ▸ hlo, hreal ▸ hhi, ?_⟩
  rw [F32.tanh_eq_pack split (F32.not_isNaN_of_isFinite hfin), hsign,
    F32.tanhMag_of_ne split hinf hmag]
  exact hc.imp (congrArg _) (congrArg _)

/-- R10, TANH-MONO. -/
theorem F32.tanh_mono (split : F32 → Split) {u v : F32} (h : F32.le u v = true) :
    F32.le (F32.tanh split u) (F32.tanh split v) = true := by
  obtain ⟨hu, hv, -⟩ := F32.le_iff.1 h
  rw [F32.tanh_eq_pack split hu, F32.tanh_eq_pack split hv]
  exact F32.le_pack_of_mono (F32.tanhMag_mono split) (F32.tanhMag_zero split)
    (fun m => (F32.tanhMag_le_one split m).trans F32.oneMag_lt_infMag.le) h

/-- Settles O48: TANH's bracket encloses the real result, is at most two wide, and grows with
the argument. -/
theorem tanhIsFaithfulAndMonotone : Obligations.TanhIsFaithfulAndMonotone :=
  ⟨fun split _ hfin h => F32.tanh_faithful split hfin h,
    fun split _ _ h => F32.tanh_mono split h,
    fun v _ _ =>
      have hbr := F32.brackets_tanh (F32.scaled (F32.mag v))
      ⟨hbr.lo_le_hi, hbr.width⟩⟩

end Sys2Proof
end

section
/-! PROOFS. Bounds on rounded results (00_scope.md R8): a result lies between the representable numbers
that the exact one lies between. -/

namespace Sys2Proof

/-! ### The order of values, over the reals -/

theorem F32.toReal_le_toReal {a b : F32} : F32.toReal a ≤ F32.toReal b ↔ F32.toInt a ≤ F32.toInt b := by
  rw [F32.toReal, F32.toReal, div_le_div_iff_of_pos_right (by positivity), Int.cast_le]

theorem F32.toReal_lt_toReal {a b : F32} : F32.toReal a < F32.toReal b ↔ F32.toInt a < F32.toInt b := by
  rw [F32.toReal, F32.toReal, div_lt_div_iff_of_pos_right (by positivity), Int.cast_lt]

theorem F32.le_iff_toReal {a b : F32} (ha : F32.isFinite a = true) (hb : F32.isFinite b = true) :
    F32.le a b = true ↔ F32.toReal a ≤ F32.toReal b := by
  simp [F32.le_iff, F32.not_isNaN_of_isFinite, ha, hb, F32.toReal_le_toReal]

theorem F32.lt_iff_toReal {a b : F32} (ha : F32.isFinite a = true) (hb : F32.isFinite b = true) :
    F32.lt a b = true ↔ F32.toReal a < F32.toReal b := by
  simp [F32.lt_iff, F32.not_isNaN_of_isFinite, ha, hb, F32.toReal_lt_toReal]

theorem F32.abs_toReal (x : F32) : |F32.toReal x| = F32.scaled (F32.mag x) / 2 ^ 149 := by
  rw [F32.toReal_eq, abs_div, abs_mul, F32.abs_signFactor, one_mul, Nat.abs_cast,
    abs_of_pos (a := (2 : ℝ) ^ 149) (by positivity)]

theorem F32.toReal_abs (x : F32) : F32.toReal (F32.abs x) = |F32.toReal x| := by
  rw [F32.abs_eq_pack, F32.toReal_pack false (F32.mag_lt x), F32.abs_toReal]
  simp [F32.signFactor]

theorem F32.isFinite_abs (x : F32) : F32.isFinite (F32.abs x) = F32.isFinite x := by
  rw [F32.abs_eq_pack, F32.isFinite, F32.mag_pack _ (F32.mag_lt x), F32.isFinite]

/-- A finite value is below the overflow threshold. -/
theorem F32.abs_toReal_lt {x : F32} (h : F32.isFinite x = true) : |F32.toReal x| < 2 ^ 128 - 2 ^ 103 := by
  rw [F32.isFinite_iff] at h
  have hle : (F32.scaled (F32.mag x) : ℝ) ≤ F32.scaled (F32.infMag - 1) :=
    Nat.cast_le.2 (F32.scaled_le_scaled.2 (Nat.le_pred_of_lt h))
  rw [F32.scaled_infMag_pred] at hle
  rw [F32.abs_toReal, div_lt_iff₀ (by positivity)]
  exact hle.trans_lt (by norm_num)

/-- A value between two finite values is finite. -/
theorem F32.isFinite_of_le_of_le {lo x hi : F32} (hlo : F32.isFinite lo = true)
    (hhi : F32.isFinite hi = true) (hlx : F32.le lo x = true) (hxh : F32.le x hi = true) :
    F32.isFinite x = true := by
  obtain ⟨-, hnan, hlx⟩ := F32.le_iff.1 hlx
  obtain ⟨-, -, hxh⟩ := F32.le_iff.1 hxh
  rw [← F32.toReal_le_toReal] at hlx hxh
  have hlo' := abs_lt.1 (F32.abs_toReal_lt hlo)
  have hhi' := abs_lt.1 (F32.abs_toReal_lt hhi)
  have habs : |F32.toReal x| < 2 ^ 128 - 2 ^ 103 := abs_lt.2 ⟨by linarith, by linarith⟩
  rw [← Bool.not_eq_true, F32.isNaN_iff, Nat.not_lt] at hnan
  rw [F32.isFinite_iff]
  refine hnan.lt_of_ne fun hinf => absurd habs (not_lt.2 ?_)
  rw [F32.abs_toReal, hinf, F32.scaled_infMag]
  norm_num

/-! ### Values within real bounds -/

/-- A finite value that lies in `[a, b]`. -/
structure F32.Between (a b : ℝ) (x : F32) : Prop where
  finite : F32.isFinite x = true
  lower : a ≤ F32.toReal x
  upper : F32.toReal x ≤ b

theorem F32.Between.mono {a b a' b' : ℝ} {x : F32} (h : F32.Between a b x) (ha : a' ≤ a) (hb : b ≤ b') :
    F32.Between a' b' x :=
  ⟨h.finite, ha.trans h.lower, h.upper.trans hb⟩

theorem F32.between_self {x : F32} (h : F32.isFinite x = true) :
    F32.Between (F32.toReal x) (F32.toReal x) x := ⟨h, le_rfl, le_rfl⟩

/-- Between two values in the order of R8, and between their real numbers. -/
theorem F32.between_iff {lo hi x : F32} (hlo : F32.isFinite lo = true) (hhi : F32.isFinite hi = true) :
    F32.Between (F32.toReal lo) (F32.toReal hi) x ↔ F32.le lo x = true ∧ F32.le x hi = true := by
  constructor
  · rintro ⟨hx, hl, hu⟩
    exact ⟨(F32.le_iff_toReal hlo hx).2 hl, (F32.le_iff_toReal hx hhi).2 hu⟩
  · rintro ⟨hl, hu⟩
    have hx := F32.isFinite_of_le_of_le hlo hhi hl hu
    exact ⟨hx, (F32.le_iff_toReal hlo hx).1 hl, (F32.le_iff_toReal hx hhi).1 hu⟩

/-- A real number that is a finite binary32 value. -/
def F32.Representable (r : ℝ) : Prop := ∃ c : F32, F32.isFinite c = true ∧ F32.toReal c = r

theorem F32.representable_toReal {x : F32} (h : F32.isFinite x = true) :
    F32.Representable (F32.toReal x) := ⟨x, h, rfl⟩

theorem F32.Representable.neg {r : ℝ} (h : F32.Representable r) : F32.Representable (-r) := by
  obtain ⟨c, hc, rfl⟩ := h
  exact ⟨F32.neg c, by rwa [F32.isFinite_neg], F32.toReal_neg c⟩

theorem F32.Representable.abs_lt_overflow {r : ℝ} (h : F32.Representable r) : |r| < 2 ^ 128 - 2 ^ 103 := by
  obtain ⟨c, hc, rfl⟩ := h
  exact F32.abs_toReal_lt hc

/-- R8: rounding keeps representable bounds, and does not overflow between them. -/
theorem F32.RoundsTo.between {r : F32} {x a b : ℝ} (h : F32.RoundsTo r x) (ha : F32.Representable a)
    (hb : F32.Representable b) (hax : a ≤ x) (hxb : x ≤ b) : F32.Between a b r := by
  rcases h with ⟨hfin, -, hnear, -⟩ | ⟨-, hover, -⟩
  · obtain ⟨lo, hlo, rfl⟩ := ha
    obtain ⟨hi, hhi, rfl⟩ := hb
    have hl := hnear lo hlo
    have hu := hnear hi hhi
    rw [abs_of_nonpos (a := F32.toReal lo - x) (by linarith)] at hl
    rw [abs_of_nonneg (a := F32.toReal hi - x) (by linarith)] at hu
    exact ⟨hfin, by linarith [(abs_le.1 hl).1], by linarith [(abs_le.1 hu).2]⟩
  · have ha' := abs_lt.1 ha.abs_lt_overflow
    have hb' := abs_lt.1 hb.abs_lt_overflow
    exact absurd (abs_lt.2 ⟨by linarith, by linarith⟩) (not_lt.2 hover)

/-! ### Representable numbers -/

/-- Magnitude bits stand for at most 24 bits of a power of two. -/
theorem F32.exists_scaled_eq (m : Nat) : ∃ q e, q < 2 ^ 24 ∧ F32.scaled m = q * 2 ^ e := by
  rcases Nat.lt_or_ge m (2 ^ 23) with h | h
  · exact ⟨m, 0, by omega, by rw [F32.scaled_of_lt (by omega), pow_zero, Nat.mul_one]⟩
  · obtain ⟨e, f, hf, rfl⟩ := F32.exists_exp h
    exact ⟨f + 2 ^ 23, e, by omega, F32.scaled_of_exp hf⟩

/-- Doubling a magnitude gives a magnitude. -/
theorem F32.exists_two_mul_scaled (m : Nat) : ∃ m', F32.scaled m' = 2 * F32.scaled m := by
  rcases Nat.lt_or_ge m (2 ^ 23) with h | h
  · exact ⟨2 * m, by rw [F32.scaled_of_lt (by omega), F32.scaled_of_lt (by omega)]⟩
  · obtain ⟨e, f, hf, rfl⟩ := F32.exists_exp h
    refine ⟨(e + 1 + 1) * 2 ^ 23 + f, ?_⟩
    rw [F32.scaled_of_exp hf, F32.scaled_of_exp hf]
    ring

/-- Every number of at most 24 bits times a power of two is what some magnitude bits stand for. -/
theorem F32.exists_scaled {q : Nat} (hq : q < 2 ^ 24) (e : Nat) : ∃ m, F32.scaled m = q * 2 ^ e := by
  induction e with
  | zero => exact ⟨q, by rw [F32.scaled_of_lt hq, pow_zero, Nat.mul_one]⟩
  | succ e ih =>
    obtain ⟨m, hm⟩ := ih
    obtain ⟨m', hm'⟩ := F32.exists_two_mul_scaled m
    exact ⟨m', by rw [hm', hm]; ring⟩

theorem F32.representable_scaled {m : Nat} (hm : m < F32.infMag) :
    F32.Representable (F32.scaled m / 2 ^ 149) := by
  refine ⟨F32.pack false m, ?_, F32.toReal_pack_false hm.le⟩
  rw [F32.isFinite_iff, F32.mag_pack _ (F32.lt_two_pow_of_le_infMag hm.le)]
  exact hm

/-- A number of at most 24 bits times a power of two, in units of `2^-149`, short of the infinity. -/
theorem F32.representable_units {q e : Nat} (hq : q < 2 ^ 24) (h : q * 2 ^ e < F32.scaled F32.infMag) :
    F32.Representable ((q * 2 ^ e : Nat) / 2 ^ 149) := by
  obtain ⟨m, hm⟩ := F32.exists_scaled hq e
  rw [← hm] at h ⊢
  exact F32.representable_scaled (F32.scaled_lt_scaled.1 h)

theorem F32.representable_natCast_mul {q e : Nat} (hq : q < 2 ^ 24) (he : e ≤ 104) :
    F32.Representable (q * 2 ^ e) := by
  have hlt : q * 2 ^ (e + 149) < F32.scaled F32.infMag := by
    calc q * 2 ^ (e + 149) < 2 ^ 24 * 2 ^ (e + 149) := Nat.mul_lt_mul_of_pos_right hq (by positivity)
      _ ≤ 2 ^ 24 * 2 ^ 253 := Nat.mul_le_mul_left _ (Nat.pow_le_pow_right (by norm_num) (by omega))
      _ = F32.scaled F32.infMag := F32.scaled_infMag.symm
  have h := F32.representable_units hq hlt
  rwa [pow_add, ← Nat.mul_assoc, Nat.cast_mul, cast_two_pow, mul_div_cancel_right₀ _ (by positivity),
    Nat.cast_mul, cast_two_pow] at h

theorem F32.representable_two_pow {e : Nat} (he : e < 128) : F32.Representable (2 ^ e) := by
  have h := F32.representable_natCast_mul (q := 2 ^ (e - 104)) (e := min e 104)
    (Nat.pow_lt_pow_right (by norm_num) (by omega)) (min_le_right _ _)
  rwa [Nat.cast_pow, Nat.cast_ofNat, ← pow_add, show e - 104 + min e 104 = e by omega] at h

theorem F32.representable_natCast {n : Nat} (h : n < 2 ^ 24) : F32.Representable n := by
  simpa using F32.representable_natCast_mul h (Nat.zero_le 104)

theorem F32.representable_zero : F32.Representable 0 := by
  simpa using F32.representable_natCast (n := 0) (by norm_num)

theorem F32.representable_one : F32.Representable 1 := by
  simpa using F32.representable_natCast (n := 1) (by norm_num)

/-- A result whose exact value is representable is that value. -/
theorem F32.RoundsTo.toReal_eq {r : F32} {x : ℝ} (h : F32.RoundsTo r x) (hx : F32.Representable x) :
    F32.isFinite r = true ∧ F32.toReal r = x := by
  obtain ⟨hfin, hl, hu⟩ := h.between hx hx le_rfl le_rfl
  exact ⟨hfin, le_antisymm hu hl⟩

/-- The reading of a literal: its value in units of `2^-149`. -/
theorem F32.toReal_of_toInt {x : F32} {z : Int} (h : F32.toInt x = z) : F32.toReal x = z / 2 ^ 149 := by
  rw [F32.toReal, h]

@[simp] theorem F32.toReal_zero : F32.toReal 0x00000000#32 = 0 := by
  simp [F32.toReal, F32.toInt_zero]

@[simp] theorem F32.toReal_one : F32.toReal 0x3F800000#32 = 1 := by
  rw [F32.toReal_of_toInt (z := 2 ^ 149) (by decide +kernel)]
  norm_num

@[simp] theorem F32.toReal_half : F32.toReal 0x3F000000#32 = 1 / 2 := by
  rw [F32.toReal_of_toInt (z := 2 ^ 148) (by decide +kernel)]
  norm_num

theorem F32.representable_one_half : F32.Representable (1 / 2) :=
  ⟨0x3F000000#32, by decide, F32.toReal_half⟩

/-- A representable whole number in units of `2^-149` is packed exactly. -/
theorem F32.toReal_pack_whole {k : Nat} (hk : F32.Representable k) :
    F32.isFinite (F32.pack false (F32.roundNearest (k * 2 ^ 149) 1)) = true ∧
      F32.toReal (F32.pack false (F32.roundNearest (k * 2 ^ 149) 1)) = k := by
  have hr := F32.roundsTo_pack_roundNearest false (num := k * 2 ^ 149) Nat.one_pos
  have hx : F32.signFactor false * ((k * 2 ^ 149 : Nat) / (1 : Nat)) / 2 ^ 149 = k := by
    rw [F32.signFactor, Nat.cast_mul, cast_two_pow]
    simp
  rw [hx] at hr
  exact hr.toReal_eq hk

/-- An integer literal of at most 24 bits is converted exactly (R8). -/
theorem F32.toReal_ofNat {n : Nat} (h : n < 2 ^ 24) :
    F32.isFinite (F32.ofNat n) = true ∧ F32.toReal (F32.ofNat n) = n :=
  F32.toReal_pack_whole (F32.representable_natCast h)

/-! ### The fraction of a value (R11) -/

/-- The whole part and the fraction of a magnitude are representable. -/
theorem F32.representable_div_mod {m : Nat} (hm : m < F32.infMag) :
    F32.Representable (F32.scaled m / 2 ^ 149 : Nat) ∧
      F32.Representable ((F32.scaled m % 2 ^ 149 : Nat) / 2 ^ 149) := by
  have hself := F32.representable_scaled hm
  obtain ⟨q, e, hq, hqe⟩ := F32.exists_scaled_eq m
  rcases Nat.lt_or_ge e 149 with he | he
  · have hsplit : 2 ^ 149 = 2 ^ (149 - e) * 2 ^ e := by rw [← pow_add, Nat.sub_add_cancel he.le]
    constructor
    · rw [hqe, hsplit, Nat.mul_div_mul_right _ _ (by positivity)]
      exact F32.representable_natCast ((Nat.div_le_self _ _).trans_lt hq)
    · have hmod : F32.scaled m % 2 ^ 149 = q % 2 ^ (149 - e) * 2 ^ e := by
        rw [hqe, hsplit, Nat.mul_mod_mul_right]
      have hlt : F32.scaled m % 2 ^ 149 < F32.scaled F32.infMag := by
        have hone := F32.scaled_lt_scaled.2 F32.oneMag_lt_infMag
        rw [F32.scaled_oneMag] at hone
        exact (Nat.mod_lt _ (by positivity)).trans hone
      rw [hmod] at hlt ⊢
      exact F32.representable_units ((Nat.mod_le _ _).trans_lt hq) hlt
  · have hdvd : 2 ^ 149 ∣ F32.scaled m := hqe ▸ (pow_dvd_pow 2 he).mul_left q
    constructor
    · rwa [Nat.cast_div hdvd (by positivity), cast_two_pow]
    · rw [Nat.mod_eq_zero_of_dvd hdvd, Nat.cast_zero, zero_div]
      exact F32.representable_zero

theorem F32.toInt_eq_scaled {x : F32} (h : 0 ≤ F32.toReal x) : F32.toInt x = F32.scaled (F32.mag x) := by
  rw [← F32.toReal_zero, F32.toReal_le_toReal, F32.toInt_zero] at h
  unfold F32.toInt at *
  split at h <;> simp_all

/-- `floor` of a finite value that is not negative is its whole part. -/
theorem F32.toReal_floor {x : F32} (hx : F32.isFinite x = true) (h0 : 0 ≤ F32.toReal x) :
    F32.isFinite (F32.floor x) = true ∧
      F32.toReal (F32.floor x) = (F32.scaled (F32.mag x) / 2 ^ 149 : Nat) := by
  have hk : F32.toInt x / 2 ^ 149 = (F32.scaled (F32.mag x) / 2 ^ 149 : Nat) := by
    rw [F32.toInt_eq_scaled h0]
    rfl
  have hrep := (F32.representable_div_mod ((F32.isFinite_iff x).1 hx)).1
  generalize F32.scaled (F32.mag x) / 2 ^ 149 = k at *
  rw [F32.floor, if_pos hx, hk]
  by_cases hk0 : k = 0
  · rw [if_pos (by rw [hk0]; rfl), hk0, F32.isFinite_iff, F32.mag_pack _ (by norm_num),
      F32.toReal_pack _ (by norm_num)]
    simp [F32.infMag]
  · rw [if_neg (by omega), decide_eq_false (by omega), Int.natAbs_natCast]
    exact F32.toReal_pack_whole hrep

/-- A finite value that is not negative, less its floor, is its fraction, exactly. -/
theorem F32.sub_floor {x : F32} (hx : F32.isFinite x = true) (h0 : 0 ≤ F32.toReal x) :
    F32.Between 0 1 (F32.sub x (F32.floor x)) ∧ F32.toReal (F32.sub x (F32.floor x)) < 1 := by
  obtain ⟨hfin, hfloor⟩ := F32.toReal_floor hx h0
  have hround := F32.roundsTo_sub hx hfin
  have hfrac : F32.toReal x - F32.toReal (F32.floor x) =
      (F32.scaled (F32.mag x) % 2 ^ 149 : Nat) / 2 ^ 149 := by
    have hdm : ((2 ^ 149 : Nat) * (F32.scaled (F32.mag x) / 2 ^ 149 : Nat) +
        (F32.scaled (F32.mag x) % 2 ^ 149 : Nat) : ℝ) = F32.scaled (F32.mag x) := by
      exact_mod_cast Nat.div_add_mod (F32.scaled (F32.mag x)) (2 ^ 149)
    rw [hfloor, F32.toReal, F32.toInt_eq_scaled h0, Int.cast_natCast, ← hdm, cast_two_pow, add_div,
      mul_div_cancel_left₀ _ (by positivity), add_sub_cancel_left]
  have hlt : ((F32.scaled (F32.mag x) % 2 ^ 149 : Nat) : ℝ) < 2 ^ 149 := by
    rw [← cast_two_pow, Nat.cast_lt]
    exact Nat.mod_lt _ (by positivity)
  rw [hfrac] at hround
  obtain ⟨hsub, hreal⟩ := hround.toReal_eq (F32.representable_div_mod ((F32.isFinite_iff x).1 hx)).2
  have hlt1 : F32.toReal (F32.sub x (F32.floor x)) < 1 := by
    rw [hreal, div_lt_one (by positivity)]
    exact hlt
  exact ⟨⟨hsub, by rw [hreal]; positivity, hlt1.le⟩, hlt1⟩

end Sys2Proof
end

section
/-! PROOFS. The units of the voice in binary32: the ranges that the invariants of 10_state.md R47 rest on. -/

namespace Sys2Proof.Machine

/-! ### The hardware's number system -/

@[simp] theorem hardware_add (a b : F32) : hardware.add a b = F32.add a b := rfl
@[simp] theorem hardware_sub (a b : F32) : hardware.sub a b = F32.sub a b := rfl
@[simp] theorem hardware_mul (a b : F32) : hardware.mul a b = F32.mul a b := rfl
@[simp] theorem hardware_div (a b : F32) : hardware.div a b = F32.div a b := rfl
@[simp] theorem hardware_neg (a : F32) : hardware.neg a = F32.neg a := rfl
@[simp] theorem hardware_abs (a : F32) : hardware.abs a = F32.abs a := rfl
@[simp] theorem hardware_floor (a : F32) : hardware.floor a = F32.floor a := rfl
@[simp] theorem hardware_exp (a : F32) : hardware.exp a = F32.exp Config.expSplit a := rfl
@[simp] theorem hardware_lt (a b : F32) : hardware.lt a b = F32.lt a b := rfl
@[simp] theorem hardware_le (a b : F32) : hardware.le a b = F32.le a b := rfl
@[simp] theorem hardware_isFinite (a : F32) : hardware.isFinite a = F32.isFinite a := rfl
@[simp] theorem hardware_isNaN (a : F32) : hardware.isNaN a = F32.isNaN a := rfl
@[simp] theorem hardware_ofNat (n : Nat) : hardware.ofNat n = F32.ofNat n := rfl
@[simp] theorem hardware_lit (c : F32) : hardware.lit c = c := rfl
@[simp] theorem hardware_zero : hardware.zero = 0x00000000#32 := by decide
@[simp] theorem hardware_one : hardware.one = 0x3F800000#32 := by decide +kernel

/-! ### The ranges of R47 as real bounds -/

theorem isFinite_zero : F32.isFinite 0x00000000#32 = true := by decide

theorem isFinite_one : F32.isFinite 0x3F800000#32 = true := by decide

theorem between_zero : F32.Between 0 0 0x00000000#32 := by
  simpa using F32.between_self isFinite_zero

theorem between_one : F32.Between 1 1 0x3F800000#32 := by
  simpa using F32.between_self isFinite_one

theorem inUnit_iff {x : F32} : inUnit x = true ↔ F32.Between 0 1 x := by
  have h := F32.between_iff (x := x) isFinite_zero isFinite_one
  rw [F32.toReal_zero, F32.toReal_one] at h
  rw [h, inUnit, Bool.and_eq_true]

theorem phaseOk_iff {x : F32} : phaseOk x = true ↔ F32.Between 0 1 x ∧ F32.toReal x < 1 := by
  rw [← inUnit_iff, phaseOk, inUnit, Bool.and_eq_true, Bool.and_eq_true]
  constructor
  · rintro ⟨h0, h1⟩
    have hx := inUnit_iff.1 (show inUnit x = true by simp [inUnit, h0, F32.le_of_lt h1])
    exact ⟨⟨h0, F32.le_of_lt h1⟩, by simpa using (F32.lt_iff_toReal hx.finite isFinite_one).1 h1⟩
  · rintro ⟨⟨h0, h1⟩, hlt⟩
    have hx := inUnit_iff.1 (show inUnit x = true by simp [inUnit, h0, h1])
    exact ⟨h0, (F32.lt_iff_toReal hx.finite isFinite_one).2 (by simpa using hlt)⟩

/-- `NOTE_HZ[0]` and `NOTE_HZ[127]` (R172). -/
theorem toReal_noteBounds :
    F32.toReal 0x4102D013#32 = 8572947 / 2 ^ 20 ∧ F32.toReal 0x4643FF6A#32 = 12844906 / 2 ^ 10 := by
  rw [F32.toReal_of_toInt (z := 8572947 * 2 ^ 129) (by decide +kernel),
    F32.toReal_of_toInt (z := 12844906 * 2 ^ 139) (by decide +kernel)]
  constructor <;> norm_num

theorem isFinite_noteBounds : F32.isFinite 0x4102D013#32 = true ∧ F32.isFinite 0x4643FF6A#32 = true := by
  decide

theorem inNoteRange_iff {f : F32} :
    inNoteRange f = true ↔ F32.Between (F32.toReal 0x4102D013#32) (F32.toReal 0x4643FF6A#32) f := by
  rw [F32.between_iff isFinite_noteBounds.1 isFinite_noteBounds.2, inNoteRange, Bool.and_eq_true]

theorem toReal_sampleRateBounds :
    F32.toReal minSampleRate = 8000 ∧ F32.toReal maxSampleRate = 192000 := by
  rw [F32.toReal_of_toInt (z := 8000 * 2 ^ 149) (by decide +kernel),
    F32.toReal_of_toInt (z := 192000 * 2 ^ 149) (by decide +kernel)]
  constructor <;> norm_num

theorem sampleRateAdmitted_iff {sr : F32} :
    sampleRateAdmitted sr = true ↔ F32.Between 8000 192000 sr := by
  rw [← toReal_sampleRateBounds.1, ← toReal_sampleRateBounds.2,
    F32.between_iff (by decide) (by decide), sampleRateAdmitted, Bool.and_eq_true]

theorem isFinite_regBounds (r : FloatReg) :
    F32.isFinite (FloatReg.lo r) = true ∧ F32.isFinite (FloatReg.hi r) = true := by
  cases r <;> decide

theorem regOk_iff {c : ConfigRegs F32} {r : FloatReg} :
    regOk c r = true ↔
      F32.Between (F32.toReal (FloatReg.lo r)) (F32.toReal (FloatReg.hi r)) (readReg c r) := by
  rw [F32.between_iff (isFinite_regBounds r).1 (isFinite_regBounds r).2, regOk, Bool.and_eq_true]

/-! ### Phase (R111) -/

/-- The phase increment of a finite frequency that is not negative is finite. -/
theorem phaseIncrement_between {sr f : F32} (hsr : sampleRateAdmitted sr = true)
    (hf : F32.isFinite f = true) (h0 : 0 ≤ F32.toReal f) :
    F32.Between 0 (2 ^ 116) (phaseIncrement hardware sr f) := by
  have hsr := sampleRateAdmitted_iff.1 hsr
  have hpos : 0 < F32.toReal sr := by linarith [hsr.lower]
  have hmax := (abs_lt.1 (F32.abs_toReal_lt hf)).2
  refine (F32.roundsTo_div hf hsr.finite hpos.ne').between F32.representable_zero
    (F32.representable_two_pow (by norm_num)) (div_nonneg h0 hpos.le) ((div_le_iff₀ hpos).2 ?_)
  nlinarith [hsr.lower]

/-- R111: the advanced phase stays in `[0, 1)` for every finite frequency that is not negative. -/
theorem phaseOk_advancePhase {phase sr f : F32} (hp : phaseOk phase = true)
    (hsr : sampleRateAdmitted sr = true) (hf : F32.isFinite f = true) (h0 : 0 ≤ F32.toReal f) :
    phaseOk (advancePhase hardware phase (phaseIncrement hardware sr f)) = true := by
  obtain ⟨hp, -⟩ := phaseOk_iff.1 hp
  have hdt := phaseIncrement_between hsr hf h0
  have hsum := (F32.roundsTo_add hp.finite hdt.finite).between F32.representable_zero
    (F32.representable_two_pow (e := 117) (by norm_num)) (add_nonneg hp.lower hdt.lower)
    ((add_le_add hp.upper hdt.upper).trans (by norm_num))
  exact phaseOk_iff.2 (F32.sub_floor hsum.finite hsum.lower)

/-! ### Times and coefficients (R151, R167) -/

/-- A number of samples, from a time of up to 2000 ms between whole numbers of ms. -/
theorem msToSamples_between {t : Tuning F32} {ms : F32} {lo hi : Nat} (hlo : lo ≤ 2000) (hhi : hi ≤ 2000)
    (hsr : sampleRateAdmitted t.sr = true) (hms : F32.Between lo hi ms) :
    F32.Between (8 * lo : Nat) (192 * hi : Nat) (msToSamples hardware t ms) := by
  have hsr := sampleRateAdmitted_iff.1 hsr
  have hlo0 : (0 : ℝ) ≤ lo := lo.cast_nonneg
  have hrlo : F32.Representable (lo * 8000 : Nat) := F32.representable_natCast (by omega)
  have hrhi : F32.Representable ((hi * 1500 : Nat) * 2 ^ 7) :=
    F32.representable_natCast_mul (by omega) (by norm_num)
  have hprod := (F32.roundsTo_mul hms.finite hsr.finite).between hrlo hrhi
    (by push_cast; exact mul_le_mul hms.lower hsr.lower (by norm_num) (hlo0.trans hms.lower))
    (by push_cast; nlinarith [hms.upper, hsr.upper, hsr.lower, hms.lower])
  obtain ⟨hfin, h1000⟩ := F32.toReal_ofNat (n := 1000) (by norm_num)
  have hpos : (0 : ℝ) < F32.toReal (F32.ofNat 1000) := by rw [h1000]; norm_num
  refine (F32.roundsTo_div hprod.finite hfin hpos.ne').between (F32.representable_natCast (by omega))
    (F32.representable_natCast (by omega)) ((le_div_iff₀ hpos).2 ?_) ((div_le_iff₀ hpos).2 ?_)
  · rw [h1000]
    refine le_of_eq_of_le ?_ hprod.lower
    push_cast
    ring
  · rw [h1000]
    refine hprod.upper.trans_eq ?_
    push_cast
    ring

/-- The exponent of a coefficient: at least two samples give no less than -1/2. -/
theorem negInverse_between {n : F32} {b : ℝ} (h : F32.Between 2 b n) :
    F32.Between (-(1 / 2)) 0 (F32.div (F32.neg 0x3F800000#32) n) := by
  have hpos : 0 < F32.toReal n := by linarith [h.lower]
  have hneg : F32.isFinite (F32.neg 0x3F800000#32) = true := by decide
  refine (F32.roundsTo_div hneg h.finite hpos.ne').between F32.representable_one_half.neg
    F32.representable_zero ?_ ?_
  · rw [F32.toReal_neg, F32.toReal_one, le_div_iff₀ hpos]
    linarith [h.lower]
  · rw [F32.toReal_neg, F32.toReal_one]
    exact div_nonpos_of_nonpos_of_nonneg (by norm_num) hpos.le

/-- R9, EXP-RANGE. -/
theorem exp_between {split : F32 → Split} {v : F32} {a : ℝ} (h : F32.Between a 0 v) :
    F32.Between 0 1 (F32.exp split v) := by
  refine inUnit_iff.1 ?_
  rw [inUnit, Bool.and_eq_true]
  exact (expIsOneAtZeroAndInRange split).2.2 v h.finite
    ((F32.le_iff_toReal h.finite isFinite_zero).2 (by simpa using h.upper))

/-- EXP from `-1/2` on is at least 1/2. -/
theorem half_le_exp {split : F32 → Split} {v : F32} (h : F32.Between (-(1 / 2)) 0 v) :
    1 / 2 ≤ F32.toReal (F32.exp split v) := by
  rcases h.upper.lt_or_eq with hlt | heq
  · have hv : F32.lt v 0x00000000#32 = true :=
      (F32.lt_iff_toReal h.finite isFinite_zero).2 (by simpa using hlt)
    obtain ⟨m, hm, -, hup, hexp⟩ := F32.exp_faithful split h.finite hv
    have hinf := hm.trans F32.oneMag_lt_infMag.le
    have hhalf : (1 / 2 : ℝ) = F32.toReal (F32.pack false 0x3F000000) := F32.toReal_half.symm
    have hgt : F32.toReal (F32.pack false 0x3F000000) < F32.toReal (F32.pack false (m + 1)) := by
      rw [← hhalf]
      linarith [Real.add_one_lt_exp hlt.ne, h.lower]
    have hmag : 0x3F000000 < m + 1 := by
      rw [F32.toReal_pack_false (by decide), F32.toReal_pack_false hinf,
        div_lt_div_iff_of_pos_right (by positivity), Nat.cast_lt, F32.scaled_lt_scaled] at hgt
      exact hgt
    have hle : ∀ n, 0x3F000000 ≤ n → n ≤ m + 1 → 1 / 2 ≤ F32.toReal (F32.pack false n) := by
      intro n hn hnm
      rw [hhalf, F32.toReal_pack_false (by decide), F32.toReal_pack_false (hnm.trans hinf),
        div_le_div_iff_of_pos_right (by positivity), Nat.cast_le, F32.scaled_le_scaled]
      exact hn
    rcases hexp with he | he
    · exact he ▸ hle m (by omega) (by omega)
    · exact he ▸ hle (m + 1) (by omega) le_rfl
  · rw [F32.exp_of_mag_eq_zero split ((F32.toReal_eq_zero_iff v).1 heq), ← F32.one_eq_pack,
      F32.toReal_one]
    norm_num

/-- R26: the envelope's coefficient stays in `[0, 1]`, whether or not the note is accented. -/
theorem triggerCoef_between {sr decayMs : F32} (accent : Bool) (hsr : sampleRateAdmitted sr = true)
    (hms : F32.Between 10 2000 decayMs) :
    F32.Between 0 1 (triggerCoef hardware (defaultTuning sr) decayMs accent) := by
  have htrigger : F32.Between (5 : Nat) (2000 : Nat)
      (triggerMs hardware (defaultTuning sr) decayMs accent) := by
    cases accent with
    | false => exact hms.mono (by norm_num) (by norm_num)
    | true =>
      refine (F32.roundsTo_mul hms.finite (b := 0x3F000000#32) (by decide)).between
        (F32.representable_natCast (by norm_num)) (F32.representable_natCast (by norm_num)) ?_ ?_
      · rw [F32.toReal_half]
        push_cast
        linarith [hms.lower]
      · rw [F32.toReal_half]
        push_cast
        linarith [hms.upper]
  have hn := msToSamples_between (t := defaultTuning sr) (by norm_num) le_rfl hsr htrigger
  simp only [triggerCoef, hardware_exp, hardware_div, hardware_neg, hardware_one]
  exact exp_between (negInverse_between (hn.mono (by norm_num) le_rfl))

/-- The glide coefficient of a legal slide time lies in `[0, 1/2]`. -/
theorem glideCoef_between {t : Tuning F32} {ms : F32} (hsr : sampleRateAdmitted t.sr = true)
    (hms : F32.Between 10 200 ms) : F32.Between 0 (1 / 2) (glideCoef hardware t ms) := by
  have hn := msToSamples_between (lo := 10) (hi := 200) (by norm_num) (by norm_num) hsr
    (hms.mono (by norm_num) (by norm_num))
  have hv := negInverse_between (hn.mono (a' := 2) (by norm_num) le_rfl)
  have he := exp_between (split := Config.expSplit) hv
  refine (F32.roundsTo_sub isFinite_one he.finite).between F32.representable_zero
    F32.representable_one_half ?_ ?_
  · rw [F32.toReal_one]
    exact sub_nonneg.2 he.upper
  · rw [F32.toReal_one]
    linarith [half_le_exp (split := Config.expSplit) hv]

/-! ### The glide (R168, R169) -/

/-- A power of two around the distance of two values. -/
theorem exists_binade {a b : F32} (hlt : F32.toReal a < F32.toReal b)
    (hmax : F32.toReal b - F32.toReal a ≤ 2 ^ 126) :
    ∃ p : ℝ, 0 < p ∧ p ≤ F32.toReal b - F32.toReal a ∧ F32.toReal b - F32.toReal a ≤ 2 * p ∧
      F32.Representable p ∧ F32.Representable (2 * p) := by
  obtain ⟨z, hz⟩ := Int.eq_ofNat_of_zero_le (sub_nonneg.2 (F32.toReal_lt_toReal.1 hlt).le)
  have hdist : F32.toReal b - F32.toReal a = z / 2 ^ 149 := by
    rw [F32.toReal, F32.toReal, ← sub_div, ← Int.cast_sub, hz, Int.cast_natCast]
  have hz0 : z ≠ 0 := by
    rintro rfl
    rw [Nat.cast_zero, zero_div] at hdist
    linarith
  have hlo : 1 * 2 ^ Nat.log2 z ≤ z := by rw [Nat.one_mul]; exact Nat.log2_self_le hz0
  have hhi : z ≤ 1 * 2 ^ (Nat.log2 z + 1) := by rw [Nat.one_mul]; exact Nat.lt_log2_self.le
  have htwo : 1 * 2 ^ (Nat.log2 z + 1) = 2 * (1 * 2 ^ Nat.log2 z) := by ring
  have hsmall : 1 * 2 ^ (Nat.log2 z + 1) < F32.scaled F32.infMag := by
    rw [hdist, div_le_iff₀ (by positivity), ← pow_add, ← cast_two_pow, Nat.cast_le] at hmax
    rw [htwo, F32.scaled_infMag]
    omega
  have hcast : ((1 * 2 ^ (Nat.log2 z + 1) : Nat) / 2 ^ 149 : ℝ) =
      2 * ((1 * 2 ^ Nat.log2 z : Nat) / 2 ^ 149) := by
    rw [htwo, Nat.cast_mul, Nat.cast_ofNat, mul_div_assoc]
  refine ⟨(1 * 2 ^ Nat.log2 z : Nat) / 2 ^ 149, by positivity, ?_, ?_,
    F32.representable_units (by norm_num) (by omega),
    hcast ▸ F32.representable_units (by norm_num) hsmall⟩
  · rw [hdist, div_le_div_iff_of_pos_right (by positivity), Nat.cast_le]
    exact hlo
  · rw [hdist, ← hcast, div_le_div_iff_of_pos_right (by positivity), Nat.cast_le]
    exact hhi

/-- The move of a glide step goes towards the target, and not past it. -/
theorem glideMove_bounds {k cur tgt : F32} (hk : F32.Between 0 (1 / 2) k) (hc : F32.isFinite cur = true)
    (ht : F32.isFinite tgt = true) (hmax : |F32.toReal tgt - F32.toReal cur| ≤ 2 ^ 126) :
    F32.Between (min 0 (F32.toReal tgt - F32.toReal cur)) (max 0 (F32.toReal tgt - F32.toReal cur))
      (F32.mul (F32.sub tgt cur) k) := by
  have hd := F32.roundsTo_sub ht hc
  obtain ⟨hlo, hhi⟩ := abs_le.1 hmax
  rcases lt_trichotomy (F32.toReal cur) (F32.toReal tgt) with hlt | heq | hgt
  · obtain ⟨p, hp, hpd, hdp, hrep, hrep2⟩ := exists_binade hlt hhi
    have hd := hd.between F32.representable_zero hrep2 (sub_pos.2 hlt).le hdp
    have hm := (F32.roundsTo_mul hd.finite hk.finite).between F32.representable_zero hrep
      (mul_nonneg hd.lower hk.lower) (by nlinarith [hd.lower, hd.upper, hk.lower, hk.upper])
    exact hm.mono (min_le_left _ _) (hpd.trans (le_max_right _ _))
  · rw [heq, sub_self] at hd ⊢
    have hd := hd.between F32.representable_zero F32.representable_zero le_rfl le_rfl
    have hd0 := le_antisymm hd.upper hd.lower
    have hm := (F32.roundsTo_mul hd.finite hk.finite).between F32.representable_zero
      F32.representable_zero (by rw [hd0, zero_mul]) (by rw [hd0, zero_mul])
    simpa using hm
  · obtain ⟨p, hp, hpd, hdp, hrep, hrep2⟩ := exists_binade hgt (by linarith)
    have hd := hd.between hrep2.neg F32.representable_zero (by linarith) (sub_neg.2 hgt).le
    have hm := (F32.roundsTo_mul hd.finite hk.finite).between hrep.neg F32.representable_zero
      (by nlinarith [hd.lower, hd.upper, hk.lower, hk.upper])
      (mul_nonpos_of_nonpos_of_nonneg hd.upper hk.lower)
    exact hm.mono ((min_le_right _ _).trans (by linarith)) (le_max_left _ _)

/-- R173 (b), the approach: between its two ends. -/
theorem approach_between {k cur tgt : F32} (hk : F32.Between 0 (1 / 2) k) (hc : F32.isFinite cur = true)
    (ht : F32.isFinite tgt = true) (hmax : |F32.toReal tgt - F32.toReal cur| ≤ 2 ^ 126) :
    F32.Between (min (F32.toReal cur) (F32.toReal tgt)) (max (F32.toReal cur) (F32.toReal tgt))
      (approach hardware k cur tgt) := by
  have hm := glideMove_bounds hk hc ht hmax
  have hrc := F32.representable_toReal hc
  have hrt := F32.representable_toReal ht
  have hlo := hm.lower
  have hhi := hm.upper
  refine (F32.roundsTo_add hc hm.finite).between ?_ ?_ ?_ ?_
  · rcases min_choice (F32.toReal cur) (F32.toReal tgt) with h | h <;> rw [h] <;> assumption
  · rcases max_choice (F32.toReal cur) (F32.toReal tgt) with h | h <;> rw [h] <;> assumption
  · rcases min_choice 0 (F32.toReal tgt - F32.toReal cur) with h | h <;> rw [h] at hlo
    · exact (min_le_left _ _).trans (by linarith)
    · exact (min_le_right _ _).trans (by linarith)
  · rcases max_choice 0 (F32.toReal tgt - F32.toReal cur) with h | h <;> rw [h] at hhi
    · exact le_trans (by linarith) (le_max_left _ _)
    · exact le_trans (by linarith) (le_max_right _ _)

/-- All the snap can do (R169): take the target, or leave the frequency. -/
theorem snap_cases {α : Type} (N : NumSys α) (t : Tuning α) (cur tgt : α) :
    snap N t cur tgt = tgt ∨ snap N t cur tgt = cur := by
  unfold snap
  split
  · exact .inl rfl
  · exact .inr rfl

/-- R173 (b): a glide step stays between its two ends. -/
theorem slideStep_between {t : Tuning F32} {ms cur tgt : F32} (hsr : sampleRateAdmitted t.sr = true)
    (hms : F32.Between 10 200 ms) (hc : F32.isFinite cur = true) (ht : F32.isFinite tgt = true)
    (hmax : |F32.toReal tgt - F32.toReal cur| ≤ 2 ^ 126) :
    F32.Between (min (F32.toReal cur) (F32.toReal tgt)) (max (F32.toReal cur) (F32.toReal tgt))
      (slideStep hardware t ms cur tgt) := by
  rcases snap_cases hardware t (approach hardware (glideCoef hardware t ms) cur tgt) tgt with h | h
  · rw [slideStep, h]
    exact ⟨ht, min_le_right _ _, le_max_right _ _⟩
  · rw [slideStep, h]
    exact approach_between (glideCoef_between hsr hms) hc ht hmax

/-- A glide between two frequencies of notes stays within the notes' range (R47). -/
theorem inNoteRange_slideStep {t : Tuning F32} {ms cur tgt : F32} (hsr : sampleRateAdmitted t.sr = true)
    (hms : F32.Between 10 200 ms) (hc : inNoteRange cur = true) (ht : inNoteRange tgt = true) :
    inNoteRange (slideStep hardware t ms cur tgt) = true := by
  rw [inNoteRange_iff] at *
  obtain ⟨hlo, hhi⟩ := toReal_noteBounds
  have hmax : |F32.toReal tgt - F32.toReal cur| ≤ 2 ^ 126 := by
    have hcl := hc.lower
    have htl := ht.lower
    have hcu := hc.upper
    have htu := ht.upper
    rw [hlo] at hcl htl
    rw [hhi] at hcu htu
    exact abs_le.2 ⟨by linarith, by linarith⟩
  exact (slideStep_between hsr hms hc.finite ht.finite hmax).mono (le_min hc.lower ht.lower)
    (max_le hc.upper ht.upper)

/-- The tunable bounds that the resting voice meets: `SNAP_HZ` and `ENV_FLOOR` (R5). -/
theorem zero_lt_snapHz {x : F32} (h : F32.Between 0 0 x) : F32.lt x 0x3C23D70A#32 = true := by
  rw [F32.lt_iff_toReal h.finite (by decide), F32.toReal_of_toInt (x := 0x3C23D70A#32)
    (z := 0xA3D70A * 2 ^ 119) (by decide +kernel)]
  exact h.upper.trans_lt (by positivity)

theorem zero_lt_envFloor {x : F32} (h : F32.Between 0 0 x) : F32.lt x 0x3727C5AC#32 = true := by
  rw [F32.lt_iff_toReal h.finite (by decide), F32.toReal_of_toInt (x := 0x3727C5AC#32)
    (z := 0xA7C5AC * 2 ^ 109) (by decide +kernel)]
  exact h.upper.trans_lt (by positivity)

/-- Before the first note (R22) the glide rests at the zero of reset. -/
theorem slideStep_zero {sr ms : F32} (hsr : sampleRateAdmitted sr = true) (hms : F32.Between 10 200 ms) :
    slideStep hardware (defaultTuning sr) ms 0x00000000#32 0x00000000#32 = 0x00000000#32 := by
  have ha := approach_between (glideCoef_between (t := defaultTuning sr) hsr hms) isFinite_zero
    isFinite_zero (by simp)
  rw [F32.toReal_zero, min_self, max_self] at ha
  have ha0 := le_antisymm ha.upper ha.lower
  have hd := (F32.roundsTo_sub isFinite_zero ha.finite).between F32.representable_zero
    F32.representable_zero (by simp [ha0]) (by simp [ha0])
  have habs : F32.Between 0 0 (F32.abs (F32.sub 0x00000000#32
      (approach hardware (glideCoef hardware (defaultTuning sr) ms) 0x00000000#32 0x00000000#32))) := by
    refine ⟨by rw [F32.isFinite_abs]; exact hd.finite, ?_, ?_⟩ <;>
      rw [F32.toReal_abs, le_antisymm hd.upper hd.lower, abs_zero]
  exact if_pos (zero_lt_snapHz habs)

/-! ### The envelope (R153 to R155) -/

/-- All an envelope step can do: zero, or the product, which is then finite. -/
theorem envelopeStep_cases (t : Tuning F32) (v c : F32) :
    envelopeStep hardware t v c = 0x00000000#32 ∨
      (F32.isFinite (F32.mul v c) = true ∧ envelopeStep hardware t v c = F32.mul v c) := by
  unfold envelopeStep guardEnvelope floorEnvelope
  simp only [hardware_lt, hardware_zero, hardware_isFinite, hardware_mul]
  by_cases hfloor : F32.lt (F32.mul v c) t.envFloor = true
  · simp [hfloor]
  · cases hfin : F32.isFinite (F32.mul v c) <;> simp [hfloor, hfin]

/-- R155: after its step the envelope is finite, from every level. -/
theorem isFinite_envelopeStep (t : Tuning F32) (v c : F32) :
    F32.isFinite (envelopeStep hardware t v c) = true := by
  rcases envelopeStep_cases t v c with h | ⟨hfin, h⟩
  · rw [h]
    exact isFinite_zero
  · rw [h]
    exact hfin

/-- R25: an envelope in `[0, 1]` stays there. -/
theorem inUnit_envelopeStep (t : Tuning F32) {v c : F32} (hv : inUnit v = true) (hc : inUnit c = true) :
    inUnit (envelopeStep hardware t v c) = true := by
  rw [inUnit_iff] at *
  rcases envelopeStep_cases t v c with h | ⟨-, h⟩
  · rw [h]
    exact between_zero.mono le_rfl zero_le_one
  · rw [h]
    exact (F32.roundsTo_mul hv.finite hc.finite).between F32.representable_zero F32.representable_one
      (mul_nonneg hv.lower hc.lower) (mul_le_one₀ hv.upper hc.lower hc.upper)

/-- An envelope at the zero of reset stays there. -/
theorem envelopeStep_zero (sr : F32) {c : F32} (hc : inUnit c = true) :
    envelopeStep hardware (defaultTuning sr) 0x00000000#32 c = 0x00000000#32 := by
  have hm := (F32.roundsTo_mul isFinite_zero (inUnit_iff.1 hc).finite).between F32.representable_zero
    F32.representable_zero (by simp) (by simp)
  have hfloor : floorEnvelope hardware (defaultTuning sr) (F32.mul 0x00000000#32 c) = 0x00000000#32 :=
    if_pos (zero_lt_envFloor hm)
  simp only [envelopeStep, hardware_mul, hfloor]
  exact if_pos isFinite_zero

/-! ### The filter and the mixer (R137, R272) -/

/-- R137: after its step the filter's stages are finite, from every state and under every law. -/
theorem isFinite_filterStepWith (t : Tuning F32) (law : F32 → F32 → F32) (k : FilterControls F32)
    (input e : F32) (y : FilterStages F32) :
    F32.isFinite (filterStepWith hardware t law k input e y).y1 = true ∧
      F32.isFinite (filterStepWith hardware t law k input e y).y2 = true ∧
      F32.isFinite (filterStepWith hardware t law k input e y).y3 = true := by
  have hguard : ∀ y : FilterStages F32, F32.isFinite (guardStages hardware y).y1 = true ∧
      F32.isFinite (guardStages hardware y).y2 = true ∧
      F32.isFinite (guardStages hardware y).y3 = true := by
    intro y
    unfold guardStages
    split
    · next h => simpa [and_assoc] using h
    · simp [isFinite_zero]
  exact hguard _

/-- R272: the limited sum lies in `[-1, 1]`, whatever is summed. -/
theorem inOutRange_mixLimit (s : F32) : inOutRange (mixLimit hardware s) = true := by
  unfold mixLimit
  split
  · simp only [hardware_zero]
    decide +kernel
  · rw [inOutRange, Bool.and_eq_true]
    exact F32.clamp_bounds Config.expSplit Config.tanhSplit (by decide) (by decide +kernel)

/-! ### The note table (R172) -/

/-- Every entry of `NOTE_HZ` is in the range that its first and last entry bound. -/
theorem inNoteRange_noteHzTable (m : Fin 128) : inNoteRange noteHzTable[m] = true := by
  revert m
  decide +kernel

end Sys2Proof.Machine
end

section
/-! PROOFS. What one command and one step can do to the groups of the state (10_state.md R20). -/

namespace Sys2Proof.Machine

/-! ### The sequencer's half of TICK -/

section Tick

variable {α : Type} (N : NumSys α) (e : EngineState α)

/-- SEQ's half of `TICK` writes the sequencer registers and the voice, and nothing else (R238, R248). -/
theorem sequence_snd :
    (sequence N e).2 =
      (e.setSeq (seqTick N e.params e.cr.tempoBpm e.seq).2).setVoice (sequence N e).2.voice := by
  rcases sequence_cases N e with ⟨q, hq, hs⟩ | ⟨i, q, hq, hs⟩
  · rw [hs, hq]
    rfl
  · rw [hs, hq]
    rcases playStep_cases N (e.readSynthStep i) (e.setSeq q) with ⟨-, hp⟩ | ⟨-, hp⟩ <;> rw [hp] <;> rfl

/-- Without a step event the sequencer's half leaves the voice and raises no trigger. -/
theorem sequence_of_none (h : (seqTick N e.params e.cr.tempoBpm e.seq).1 = none) :
    sequence N e = (0#4, e.setSeq (seqTick N e.params e.cr.tempoBpm e.seq).2) := by
  rcases sequence_cases N e with ⟨q, hq, hs⟩ | ⟨i, q, hq, -⟩
  · rw [hs, hq]
  · rw [hq] at h
    cases h

/-- With a step event the voice plays the step's note, if the step is active (R248). -/
theorem sequence_voice_of_some {k : BitVec 4}
    (h : (seqTick N e.params e.cr.tempoBpm e.seq).1 = some k) :
    (sequence N e).2.voice =
      if (e.readSynthStep k).active then
        playNote N e.params e.cr (clampNote ((e.readSynthStep k).note.setWidth 8))
          (e.readSynthStep k).accent (e.readSynthStep k).slide e.voice
      else e.voice := by
  rcases sequence_cases N e with ⟨q, hq, -⟩ | ⟨i, q, hq, hs⟩
  · rw [hq] at h
    cases h
  · obtain rfl : i = k := by rw [hq] at h; exact Option.some.inj h
    rw [hs]
    rcases playStep_cases N (e.readSynthStep i) (e.setSeq q) with ⟨ha, hp⟩ | ⟨ha, hp⟩ <;>
      simp [hp, ha]

/-- All the sequencer's half can do to the voice: nothing, or one note. -/
theorem sequence_voice_cases :
    (sequence N e).2.voice = e.voice ∨
      ∃ m a sl, (sequence N e).2.voice = playNote N e.params e.cr m a sl e.voice := by
  cases h : (seqTick N e.params e.cr.tempoBpm e.seq).1 with
  | none =>
    rw [sequence_of_none N e h]
    exact .inl rfl
  | some k =>
    rw [sequence_voice_of_some N e h]
    split
    · exact .inr ⟨_, _, _, rfl⟩
    · exact .inl rfl

/-- `TICK` writes the sequencer registers, the voice, `n`, `out` and `trig` (R270). -/
theorem tickWith_eq_emit (oracle : DrumOracle α) :
    tickWith N oracle e =
      (((e.setSeq (seqTick N e.params e.cr.tempoBpm e.seq).2).setVoice
        (renderVoice N e.params e.cr (sequence N e).2.voice).2).countTick).emit
          (mixOut N e.cr (renderVoice N e.params e.cr (sequence N e).2.voice).1
            (sanitizeDrums N (oracle (sequence N e).1)))
          (sequence N e).1 := by
  rw [tickWith_eq, finishTick, sequence_snd]
  rfl

@[simp] theorem tickWith_params (oracle : DrumOracle α) : (tickWith N oracle e).params = e.params := by
  rw [tickWith_eq_emit]; rfl

@[simp] theorem tickWith_cr (oracle : DrumOracle α) : (tickWith N oracle e).cr = e.cr := by
  rw [tickWith_eq_emit]; rfl

@[simp] theorem tickWith_patS (oracle : DrumOracle α) : (tickWith N oracle e).patS = e.patS := by
  rw [tickWith_eq_emit]; rfl

@[simp] theorem tickWith_patD (oracle : DrumOracle α) : (tickWith N oracle e).patD = e.patD := by
  rw [tickWith_eq_emit]; rfl

@[simp] theorem tickWith_resp (oracle : DrumOracle α) : (tickWith N oracle e).resp = e.resp := by
  rw [tickWith_eq_emit]; rfl

@[simp] theorem tickWith_seq (oracle : DrumOracle α) :
    (tickWith N oracle e).seq = (seqTick N e.params e.cr.tempoBpm e.seq).2 := by
  rw [tickWith_eq_emit]; rfl

@[simp] theorem tickWith_voice (oracle : DrumOracle α) :
    (tickWith N oracle e).voice = (renderVoice N e.params e.cr (sequence N e).2.voice).2 := by
  rw [tickWith_eq_emit]; rfl

@[simp] theorem tickWith_out (oracle : DrumOracle α) :
    (tickWith N oracle e).out =
      mixOut N e.cr (renderVoice N e.params e.cr (sequence N e).2.voice).1
        (sanitizeDrums N (oracle (sequence N e).1)) := by
  rw [tickWith_eq_emit]; rfl

end Tick

/-! ### Commands by kind -/

@[simp] theorem noteOff_eq {α : Type} (e : EngineState α) :
    noteOff e = e.setVoice (setGate false e.voice) := rfl

/-- The mnemonics of the 14 configuration setters (R210, R211). -/
def setterMnemonics : List String :=
  ["SET_WAVEFORM", "SET_CUTOFF", "SET_RESONANCE", "SET_ENV_MOD", "SET_DECAY", "SET_ACCENT",
    "SET_SLIDE_TIME", "SET_DISTORTION", "SET_TEMPO", "SET_SYNTH_VOLUME", "SET_DRUM_VOLUME",
    "SET_KICK_VOLUME", "SET_SNARE_VOLUME", "SET_HIHAT_VOLUME"]

/-- What a setter can store: nothing, a waveform, or one register clamped to its bounds (R210, R211). -/
def SetterResult (c c' : ConfigRegs F32) : Prop :=
  c' = c ∨ (∃ w, c' = { c with waveform := w }) ∨
    ∃ r v, c' = writeReg c r (hardware.clamp v (FloatReg.lo r) (FloatReg.hi r))

/-- The commands by kind, each with the state it answers. -/
inductive CommandEffect (s : State) : Instr → State → Prop
  | tick : CommandEffect s .tick (s.onEngine (tickWith hardware s.drumOracle)).sampleDone
  | noteOn (m : BitVec 8) (a sl : Bool) :
    CommandEffect s (.noteOn m a sl) (s.onEngine (noteOnWith hardware m a sl))
  | noteOff : CommandEffect s .noteOff (s.onEngine noteOff)
  | start : CommandEffect s .start (s.onEngine (startSeq hardware))
  | stop : CommandEffect s .stop (s.onEngine stopSeq)
  | setter {i : Instr} {c : ConfigRegs F32} (hi : i.mnemonic ∈ setterMnemonics)
    (hc : SetterResult s.cr c) : CommandEffect s i (s.onEngine (·.setCr c))
  | setSynthStep (i n : BitVec 8) (a sl v : Bool) (m : Vector SynthStep 16) :
    CommandEffect s (.setSynthStep i n a sl v) (s.onEngine ({ · with patS := m }))
  | setDrumStep (i : BitVec 8) (k n c o : Bool) (m : Vector DrumStep 16) :
    CommandEffect s (.setDrumStep i k n c o) (s.onEngine ({ · with patD := m }))
  | getSynthStep : CommandEffect s .getSynthStep (s.answer readStep)
  | getDrumStep : CommandEffect s .getDrumStep (s.answer readStep)
  | synthStepChanged : CommandEffect s .synthStepChanged (s.answer readSynthChanged)
  | drumStepChanged : CommandEffect s .drumStepChanged (s.answer readDrumChanged)

/-- A setter is no command with a mnemonic of another kind. -/
theorem mnemonic_ne_of_setter {i : Instr} (hi : i.mnemonic ∈ setterMnemonics) (m : String)
    (hm : m ∉ setterMnemonics := by decide) : i.mnemonic ≠ m := fun he => hm (he ▸ hi)

theorem CommandEffect.setFloat {i : Instr} (r : FloatReg) (v : F32) (s : State)
    (hi : i.mnemonic ∈ setterMnemonics := by simp [Instr.mnemonic, setterMnemonics]) :
    CommandEffect s i (s.onEngine (setFloat hardware r v)) := by
  rcases setFloat_cases hardware r v s.toEngineState with ⟨-, h⟩ | ⟨-, h⟩
  · rw [State.onEngine, h]
    exact .setter hi (.inl rfl)
  · rw [State.onEngine, h]
    exact .setter hi (.inr (.inr ⟨r, v, rfl⟩))

theorem CommandEffect.setWaveform (w : BitVec 32) (s : State) :
    CommandEffect s (.setWaveform w) (s.onEngine (setWaveform w)) := by
  have hi : (Instr.setWaveform w).mnemonic ∈ setterMnemonics := by simp [Instr.mnemonic, setterMnemonics]
  rcases setWaveform_cases w s.toEngineState with ⟨-, h⟩ | ⟨-, h⟩ | ⟨-, -, h⟩ <;> rw [State.onEngine, h]
  · exact .setter hi (.inr (.inl ⟨_, rfl⟩))
  · exact .setter hi (.inr (.inl ⟨_, rfl⟩))
  · exact .setter hi (.inl rfl)

theorem CommandEffect.writeSynthStep (i n : BitVec 8) (a sl v : Bool) (s : State) :
    CommandEffect s (.setSynthStep i n a sl v)
      (s.onEngine (writeSynthStep i ⟨clampNote n, a, sl, v⟩)) := by
  rcases writeSynthStep_cases i ⟨clampNote n, a, sl, v⟩ s.toEngineState with ⟨_, h⟩ | ⟨-, h⟩ <;>
    rw [State.onEngine, h]
  · exact .setSynthStep i n a sl v _
  · exact .setSynthStep i n a sl v s.patS

theorem CommandEffect.writeDrumStep (i : BitVec 8) (k n c o : Bool) (s : State) :
    CommandEffect s (.setDrumStep i k n c o) (s.onEngine (writeDrumStep i ⟨k, n, c, o⟩)) := by
  rcases writeDrumStep_cases i ⟨k, n, c, o⟩ s.toEngineState with ⟨_, h⟩ | ⟨-, h⟩ <;>
    rw [State.onEngine, h]
  · exact .setDrumStep i k n c o _
  · exact .setDrumStep i k n c o s.patD

/-- Every command has the effect of its kind. -/
theorem afterCommand_effect (i : Instr) (s : State) : CommandEffect s i (afterCommand i s) := by
  cases i with
  | tick => exact .tick
  | noteOn m a sl => exact .noteOn m a sl
  | noteOff => exact .noteOff
  | start => exact .start
  | stop => exact .stop
  | setWaveform w => exact .setWaveform w s
  | setCutoff v => exact .setFloat .cutoffHz v s
  | setResonance v => exact .setFloat .resonance v s
  | setEnvMod v => exact .setFloat .envMod v s
  | setDecay v => exact .setFloat .decayMs v s
  | setAccent v => exact .setFloat .accentAmount v s
  | setSlideTime v => exact .setFloat .slideTimeMs v s
  | setDistortion v => exact .setFloat .distortion v s
  | setTempo v => exact .setFloat .tempoBpm v s
  | setSynthVolume v => exact .setFloat .synthGain v s
  | setDrumVolume v => exact .setFloat .drumMasterGain v s
  | setKickVolume v => exact .setFloat .kickGain v s
  | setSnareVolume v => exact .setFloat .snareGain v s
  | setHihatVolume v => exact .setFloat .hihatGain v s
  | setSynthStep i n a sl v => exact .writeSynthStep i n a sl v s
  | setDrumStep i k n c o => exact .writeDrumStep i k n c o s
  | getSynthStep => exact .getSynthStep
  | getDrumStep => exact .getDrumStep
  | synthStepChanged => exact .synthStepChanged
  | drumStepChanged => exact .drumStepChanged

theorem exec_effect {i : Instr} {s t : State} (h : exec i s = .next t) : CommandEffect s i t := by
  rw [exec_eq_afterCommand] at h
  injection h with h
  exact h ▸ afterCommand_effect i s

/-! ### Frames (R20) -/

section Frames

variable {s t : State} {i : Instr}

theorem CommandEffect.voice_eq (h : CommandEffect s i t)
    (hi : i.mnemonic ∉ ["NOTE_ON", "NOTE_OFF", "STOP", "TICK"]) : t.voice = s.voice := by
  cases h with
  | tick | noteOn | noteOff | stop => simp [Instr.mnemonic] at hi
  | _ => rfl

/-- No command but `TICK` resets or advances the phase (R21). -/
theorem CommandEffect.phase_eq (h : CommandEffect s i t) (hi : i.mnemonic ≠ "TICK") :
    t.voice.phase = s.voice.phase := by
  cases h with
  | tick => exact absurd rfl hi
  | noteOn m a sl =>
    rcases playNote_cases hardware s.params s.cr (clampNote m) a sl s.voice with ⟨-, hp⟩ | ⟨-, hp⟩ <;>
      simp [hp]
  | _ => rfl

theorem CommandEffect.sample_eq (h : CommandEffect s i t) (hi : i.mnemonic ≠ "TICK") :
    t.sampleCount = s.sampleCount ∧ t.out = s.out ∧ t.trig = s.trig ∧ t.outValid = s.outValid := by
  cases h with
  | tick => exact absurd rfl hi
  | _ => exact ⟨rfl, rfl, rfl, rfl⟩

theorem CommandEffect.seq_eq (h : CommandEffect s i t)
    (hi : i.mnemonic ∉ ["START", "STOP", "TICK", "SYNTH_STEP_CHANGED", "DRUM_STEP_CHANGED"]) :
    t.seq = s.seq := by
  cases h with
  | tick | start | stop | synthStepChanged | drumStepChanged => simp [Instr.mnemonic] at hi
  | _ => rfl

theorem CommandEffect.cr_eq (h : CommandEffect s i t) (hi : i.mnemonic ∉ setterMnemonics) :
    t.cr = s.cr := by
  cases h with
  | tick => simp
  | setter hi' => exact absurd hi' hi
  | _ => rfl

theorem CommandEffect.patS_eq (h : CommandEffect s i t) (hi : i.mnemonic ≠ "SET_SYNTH_STEP") :
    t.patS = s.patS := by
  cases h with
  | tick => simp
  | setSynthStep => exact absurd rfl hi
  | _ => rfl

theorem CommandEffect.patD_eq (h : CommandEffect s i t) (hi : i.mnemonic ≠ "SET_DRUM_STEP") :
    t.patD = s.patD := by
  cases h with
  | tick => simp
  | setDrumStep => exact absurd rfl hi
  | _ => rfl

theorem CommandEffect.params_eq (h : CommandEffect s i t) : t.params = s.params := by
  cases h with
  | tick => simp
  | _ => rfl

theorem CommandEffect.resp_eq (h : CommandEffect s i t)
    (hi : i.mnemonic ∉
      ["GET_SYNTH_STEP", "GET_DRUM_STEP", "SYNTH_STEP_CHANGED", "DRUM_STEP_CHANGED"]) :
    t.resp = s.resp ∧ t.respValid = s.respValid := by
  cases h with
  | tick => simp
  | getSynthStep | getDrumStep | synthStepChanged | drumStepChanged => simp [Instr.mnemonic] at hi
  | _ => exact ⟨rfl, rfl⟩

theorem CommandEffect.environment_eq (h : CommandEffect s i t) :
    t.port = s.port ∧ t.drumEnv = s.drumEnv := by
  cases h with
  | _ => exact ⟨rfl, rfl⟩

theorem CommandEffect.drums_eq (h : CommandEffect s i t) (hi : i.mnemonic ≠ "TICK") :
    t.drumIn = s.drumIn ∧ t.trigHistory = s.trigHistory := by
  cases h with
  | tick => exact absurd rfl hi
  | _ => exact ⟨rfl, rfl⟩

end Frames

/-- Settles O11: each group has its frame over the kinds of commands. -/
theorem groupsAreWrittenOnlyByTheirCommands : Obligations.GroupsAreWrittenOnlyByTheirCommands := by
  intro i s
  have h := afterCommand_effect i s
  obtain ⟨hport, henv⟩ := h.environment_eq
  exact ⟨_, exec_eq_afterCommand i s, h.voice_eq, fun hi => ⟨h.phase_eq hi, h.sample_eq hi⟩, h.seq_eq,
    h.cr_eq, h.patS_eq, h.patD_eq, h.params_eq, h.resp_eq, hport, henv, h.drums_eq⟩

/-! ### Flags (R31) -/

section Flags

variable {s t : State} {i : Instr}

theorem stepEvent_tick (s : State) :
    stepEvent .tick s = (seqTick hardware s.params s.cr.tempoBpm s.seq).1 := rfl

theorem stepEvent_eq_none {i : Instr} (h : i.mnemonic ≠ "TICK") (s : State) : stepEvent i s = none := by
  cases i with
  | tick => exact absurd rfl h
  | _ => rfl

@[simp] theorem playNote_gate {α : Type} (N : NumSys α) (p : Params α) (c : ConfigRegs α) (m : BitVec 7)
    (a sl : Bool) (v : VoiceRegs α) : (playNote N p c m a sl v).gate = true := by
  rcases playNote_cases N p c m a sl v with ⟨-, h⟩ | ⟨-, h⟩ <;> rw [h]

@[simp] theorem renderVoice_gate {α : Type} (N : NumSys α) (p : Params α) (c : ConfigRegs α)
    (v : VoiceRegs α) : (renderVoice N p c v).2.gate = v.gate := rfl

@[simp] theorem seqTick_running {α : Type} (N : NumSys α) (p : Params α) (tempo : α) (q : SeqRegs α) :
    (seqTick N p tempo q).2.running = q.running := by
  rcases seqTick_cases N p tempo q with ⟨-, h⟩ | ⟨-, -, h⟩ | ⟨-, -, h⟩ <;> rw [h] <;> rfl

/-- A step event sets both changed-flags; a count leaves them (R36). -/
theorem seqTick_changed {α : Type} (N : NumSys α) (p : Params α) (tempo : α) (q : SeqRegs α) :
    (seqTick N p tempo q).2.synthStepChanged =
        ((seqTick N p tempo q).1.isSome || q.synthStepChanged) ∧
      (seqTick N p tempo q).2.drumStepChanged =
        ((seqTick N p tempo q).1.isSome || q.drumStepChanged) := by
  rcases seqTick_cases N p tempo q with ⟨-, h⟩ | ⟨-, -, h⟩ | ⟨-, -, h⟩ <;> rw [h] <;> exact ⟨rfl, rfl⟩

/-- The gate after a `TICK` (R24, R248). -/
theorem sequence_gate {α : Type} (N : NumSys α) (e : EngineState α) :
    (sequence N e).2.voice.gate =
      (e.voice.gate || ((seqTick N e.params e.cr.tempoBpm e.seq).1.map
        fun k => (e.readSynthStep k).active).getD false) := by
  cases h : (seqTick N e.params e.cr.tempoBpm e.seq).1 with
  | none => simp [sequence_of_none N e h]
  | some k =>
    rw [sequence_voice_of_some N e h]
    by_cases hk : (e.readSynthStep k).active = true <;> simp [hk]

/-- The gate after a command: set by a note, cleared by `NOTE_OFF` and `STOP` (R24). -/
theorem CommandEffect.gate (h : CommandEffect s i t) :
    t.voice.gate =
      if i.mnemonic = "NOTE_ON" then true
      else if i.mnemonic ∈ ["NOTE_OFF", "STOP"] then false
      else s.voice.gate || ((stepEvent i s).map fun k => (s.readSynthStep k).active).getD false := by
  cases h with
  | tick => simpa [Instr.mnemonic, stepEvent_tick] using sequence_gate hardware s.toEngineState
  | setter hi =>
    simp [mnemonic_ne_of_setter hi "NOTE_ON", mnemonic_ne_of_setter hi "NOTE_OFF",
      mnemonic_ne_of_setter hi "STOP", stepEvent_eq_none (mnemonic_ne_of_setter hi "TICK")]
  | noteOn => simp [Instr.mnemonic]
  | stop => simp [Instr.mnemonic, stopSeq]
  | _ => simp [Instr.mnemonic, stepEvent, startSeq, readStep, readSynthChanged, readDrumChanged]

/-- `running` after a command: set by `START`, cleared by `STOP` (R32). -/
theorem CommandEffect.running (h : CommandEffect s i t) :
    t.seq.running =
      if i.mnemonic = "START" then true else if i.mnemonic = "STOP" then false else s.seq.running := by
  cases h with
  | setter hi =>
    simp [mnemonic_ne_of_setter hi "START", mnemonic_ne_of_setter hi "STOP"]
  | _ => simp [Instr.mnemonic, startSeq, stopSeq, readStep, readSynthChanged, readDrumChanged]

/-- The changed-flags after a command: set by a step event, each cleared by its own read (R36). -/
theorem CommandEffect.changed (h : CommandEffect s i t) :
    t.seq.synthStepChanged =
        (if i.mnemonic = "SYNTH_STEP_CHANGED" then false
          else (stepEvent i s).isSome || s.seq.synthStepChanged) ∧
      t.seq.drumStepChanged =
        if i.mnemonic = "DRUM_STEP_CHANGED" then false
          else (stepEvent i s).isSome || s.seq.drumStepChanged := by
  cases h with
  | tick => simp [Instr.mnemonic, stepEvent_tick, seqTick_changed]
  | setter hi =>
    simp [mnemonic_ne_of_setter hi "SYNTH_STEP_CHANGED", mnemonic_ne_of_setter hi "DRUM_STEP_CHANGED",
      stepEvent_eq_none (mnemonic_ne_of_setter hi "TICK")]
  | _ =>
    simp [Instr.mnemonic, stepEvent, startSeq, stopSeq, readStep, readSynthChanged,
      readDrumChanged]

end Flags

/-- Settles O12: each flag is the function of the command, the step event and its old value that R31's
table gives. -/
theorem flagsFollowTheirTable : Obligations.FlagsFollowTheirTable := by
  intro i s
  have h := afterCommand_effect i s
  obtain ⟨hsynth, hdrum⟩ := h.changed
  refine ⟨_, exec_eq_afterCommand i s, ?_⟩
  have htick : ∀ k, stepEvent i s = some k → i.mnemonic = "TICK" := fun k hk => by
    by_contra hne
    rw [stepEvent_eq_none hne] at hk
    cases hk
  rw [h.gate, h.running, hsynth, hdrum]
  refine ⟨fun hi => if_pos hi, fun hi => ?_, fun hi he => ?_, fun k hk => ?_, fun hi => if_pos hi,
    fun hi => ?_, fun hi => ?_, fun he => ?_, fun hi => ?_, fun hi => ?_, fun hi he => ?_⟩
  · rw [if_neg (fun hon => by simp [hon] at hi), if_pos hi]
  · simp only [List.mem_cons, List.not_mem_nil, or_false, not_or] at hi ⊢
    simp [hi, he]
  · simp [htick k hk, hk]
  · simp [hi]
  · simp only [List.mem_cons, List.not_mem_nil, or_false, not_or] at hi
    simp [hi]
  · obtain ⟨k, hk⟩ := Option.isSome_iff_exists.1 he
    simp [htick k hk, hk]
  · simp [hi, stepEvent_eq_none]
  · simp [hi, stepEvent_eq_none]
  · simp only [List.mem_cons, List.not_mem_nil, or_false, not_or] at hi
    simp [hi, he]

/-! ### Steps -/

/-- All a step that goes on can do: end the pulses of the one before, perform a command, or reset. -/
theorem step_cases {s t : State} (h : step s = .next t) :
    (∃ rest, t = s.accept rest) ∨ (∃ i rest, CommandEffect (s.accept rest) i t) ∨
      ∃ sr rest, sampleRateAdmitted sr = true ∧ t = s.resetTo sr rest := by
  cases hport : s.port with
  | nil =>
    rw [step_idle hport] at h
    cases h
    exact .inl ⟨[], rfl⟩
  | cons entry rest =>
    cases entry with
    | command w =>
      rw [step_command hport, performWord] at h
      split at h
      · exact .inr (.inl ⟨_, rest, exec_effect h⟩)
      · cases h
        exact .inl ⟨rest, rfl⟩
    | reset sr =>
      rw [step_reset hport, resetStep] at h
      split at h
      · next hsr =>
        cases h
        exact .inr (.inr ⟨sr, rest, hsr, rfl⟩)
      · cases h

/-- What every command and every admitted reset keeps, and what does not speak of the port and the pulses,
is kept by every step. -/
theorem step_invariant {P : State → Prop} (haccept : ∀ s rest, P s → P (s.accept rest))
    (hcommand : ∀ s i t, CommandEffect s i t → P s → P t)
    (hreset : ∀ s sr rest, sampleRateAdmitted sr = true → P s → P (s.resetTo sr rest)) {s t : State}
    (hs : P s) (h : step s = .next t) : P t := by
  rcases step_cases h with ⟨rest, rfl⟩ | ⟨i, rest, he⟩ | ⟨sr, rest, hsr, rfl⟩
  · exact haccept s rest hs
  · exact hcommand _ i t he (haccept s rest hs)
  · exact hreset s sr rest hsr hs

end Sys2Proof.Machine
end

section
/-! PROOFS. The invariants of 10_state.md R47, group by group: each command keeps them, so every step does. -/

namespace Sys2Proof.Machine

/-! ### Configuration registers (R38) -/

theorem configOk_iff {c : ConfigRegs F32} : configOk c = true ↔ ∀ r, regOk c r = true := by
  unfold configOk
  simp only [Bool.and_eq_true]
  constructor
  · intro h r
    cases r <;> simp [h]
  · intro h
    simp [h]

/-- What a setter stores is within the register's bounds (R210). -/
theorem regOk_writeReg_clamp (c : ConfigRegs F32) (r : FloatReg) (v : F32) :
    regOk (writeReg c r (hardware.clamp v (FloatReg.lo r) (FloatReg.hi r))) r = true := by
  have hnan : F32.isNaN (FloatReg.lo r) = false := F32.not_isNaN_of_isFinite (isFinite_regBounds r).1
  have hle : F32.le (FloatReg.lo r) (FloatReg.hi r) = true := by cases r <;> decide +kernel
  rw [regOk, readReg_writeReg_same, Bool.and_eq_true]
  exact F32.clamp_bounds Config.expSplit Config.tanhSplit hnan hle

theorem regOk_writeReg_other {c : ConfigRegs F32} {r r' : FloatReg} (v : F32) (h : r' ≠ r) :
    regOk (writeReg c r v) r' = regOk c r' := by
  rw [regOk, readReg_writeReg_other c v h, regOk]

theorem configOk_of_setterResult {c c' : ConfigRegs F32} (h : SetterResult c c')
    (hc : configOk c = true) : configOk c' = true := by
  rcases h with rfl | ⟨w, rfl⟩ | ⟨r, v, rfl⟩
  · exact hc
  · exact hc
  · rw [configOk_iff] at hc ⊢
    intro r'
    by_cases hr : r' = r
    · rw [hr]
      exact regOk_writeReg_clamp c r v
    · rw [regOk_writeReg_other _ hr]
      exact hc r'

theorem CommandEffect.keeps_configOk {s t : State} {i : Instr} (h : CommandEffect s i t)
    (hc : configOk s.cr = true) : configOk t.cr = true := by
  cases h with
  | tick => simpa using hc
  | setter _ hr => exact configOk_of_setterResult hr hc
  | _ => exact hc

/-- Settles O36: a setter clamps what it stores, and reset stores `RESET_CFG`. -/
theorem configurationStaysLegal : Obligations.ConfigurationStaysLegal := by
  intro s t hcr hreset hstep
  refine step_invariant (P := fun s => configOk s.cr = true ∧ configOk s.params.resetCfg = true)
    (fun _ _ h => h) (fun s i t he ⟨hcr, hreset⟩ => ⟨he.keeps_configOk hcr, ?_⟩)
    (fun _ _ _ _ ⟨_, hreset⟩ => ⟨hreset, hreset⟩) ⟨hcr, hreset⟩ hstep
  rw [he.params_eq]
  exact hreset

/-! ### Sequencer registers (R33) -/

/-- Widening the index of a step gives a step that is not -1 (R33). -/
theorem toInt_setWidth_five (k : BitVec 4) : 0 ≤ (k.setWidth 5).toInt ∧ (k.setWidth 5).toInt ≤ 15 := by
  revert k
  decide

theorem seqOk_seqTick {p : Params F32} {tempo : F32} {q : SeqRegs F32} (hq : seqOk q = true) :
    seqOk (seqTick hardware p tempo q).2 = true := by
  rcases seqTick_cases hardware p tempo q with ⟨-, h⟩ | ⟨-, -, h⟩ | ⟨hr, -, h⟩ <;> rw [h]
  · exact hq
  · exact hq
  · obtain ⟨hlo, hhi⟩ := toInt_setWidth_five (nextStep p.steps q.currentStep)
    rw [seqOk, eventSeq_currentStep, eventSeq_running, countedSeq_running, countedSeq_currentStep, hr,
      decide_eq_true (by omega), decide_eq_true hhi]
    rfl

theorem CommandEffect.keeps_seqOk {s t : State} {i : Instr} (h : CommandEffect s i t)
    (hq : seqOk s.seq = true) : seqOk t.seq = true := by
  cases h with
  | tick => simpa using seqOk_seqTick hq
  | start => rfl
  | stop => rfl
  | _ => exact hq

/-- Settles O37: a step event goes to 0..15 while running, `START` and `STOP` to -1. -/
theorem sequencerStaysLegal : Obligations.SequencerStaysLegal := fun _ _ hseq hstep =>
  step_invariant (P := fun s => seqOk s.seq = true) (fun _ _ h => h) (fun _ _ _ he h => he.keeps_seqOk h)
    (fun _ _ _ _ _ => rfl) hseq hstep

/-! ### The voice (R21 to R28) -/

/-- The sample rate is admitted, the constants, the scale law and the ROM are the default ones (R5, R172),
and `RESET_CFG` is legal. -/
theorem buildOk_iff {p : Params F32} :
    buildOk p = true ↔ sampleRateAdmitted p.tuning.sr = true ∧ p.tuning = defaultTuning p.tuning.sr ∧
      p.fbLaw = none ∧ p.noteHz = noteHzTable ∧ configOk p.resetCfg = true := by
  simp [buildOk, and_assoc]

theorem voiceOk_iff {v : VoiceRegs F32} :
    voiceOk v = true ↔ phaseOk v.phase = true ∧ freqOk v = true ∧ inUnit v.envValue = true ∧
      inUnit v.decayCoef = true ∧ F32.isFinite v.y1 = true ∧ F32.isFinite v.y2 = true ∧
      F32.isFinite v.y3 = true ∧ inUnit v.accentLevel = true := by
  simp [voiceOk, and_assoc]

/-- R47, second row: the voice rests at the zero of reset, or both frequencies are in the notes' range. -/
theorem freqOk_iff {v : VoiceRegs F32} :
    freqOk v = true ↔ (v.freqCurrent = 0#32 ∧ v.freqTarget = 0#32 ∧ v.envValue = 0#32) ∨
      (inNoteRange v.freqCurrent = true ∧ inNoteRange v.freqTarget = true) := by
  simp [freqOk, and_assoc]

theorem inNoteRange_noteHz {p : Params F32} (hp : p.noteHz = noteHzTable) (m : BitVec 7) :
    inNoteRange (noteHz p m) = true := by
  rw [noteHz, hp]
  exact inNoteRange_noteHzTable ⟨m.toNat, m.isLt⟩

/-- The legal ranges of the registers that the voice reads as times and levels (R38), over the reals. -/
theorem configOk_ranges {c : ConfigRegs F32} (h : configOk c = true) :
    F32.Between 10 2000 c.decayMs ∧ F32.Between 10 200 c.slideTimeMs ∧ inUnit c.accentAmount = true := by
  rw [configOk_iff] at h
  have hten : F32.toReal 0x41200000#32 = 10 := by
    rw [F32.toReal_of_toInt (z := 10 * 2 ^ 149) (by decide +kernel)]
    norm_num
  have hlong : F32.toReal 0x44FA0000#32 = 2000 := by
    rw [F32.toReal_of_toInt (z := 2000 * 2 ^ 149) (by decide +kernel)]
    norm_num
  have hslide : F32.toReal 0x43480000#32 = 200 := by
    rw [F32.toReal_of_toInt (z := 200 * 2 ^ 149) (by decide +kernel)]
    norm_num
  have hdecay := regOk_iff.1 (h .decayMs)
  have htime := regOk_iff.1 (h .slideTimeMs)
  simp only [FloatReg.lo, FloatReg.hi, readReg, hten, hlong, hslide] at hdecay htime
  exact ⟨hdecay, htime, h .accentAmount⟩

/-- From an envelope at zero no note glides (R166). -/
theorem slideThreshold_not_lt_zero (sr : F32) :
    ¬F32.lt (defaultTuning sr).slideThreshold 0#32 = true := by
  have h : ¬F32.lt 0x3C23D70A#32 0#32 = true := by decide +kernel
  exact h

/-- A note keeps the voice legal: it glides only from a sounding voice, else it starts every register it
writes within its range (R196). -/
theorem voiceOk_playNote {p : Params F32} {c : ConfigRegs F32} {v : VoiceRegs F32} (m : BitVec 7)
    (a sl : Bool) (hp : buildOk p = true) (hc : configOk c = true) (hv : voiceOk v = true) :
    voiceOk (playNote hardware p c m a sl v) = true := by
  obtain ⟨hsr, htuning, -, hrom, -⟩ := buildOk_iff.1 hp
  obtain ⟨hdecayMs, -, hamount⟩ := configOk_ranges hc
  obtain ⟨hphase, hfreq, henv, hcoef, hy1, hy2, hy3, haccent⟩ := voiceOk_iff.1 hv
  have hnote := inNoteRange_noteHz hrom m
  rcases playNote_cases hardware p c m a sl v with ⟨hglide, h⟩ | ⟨-, h⟩ <;> rw [h, voiceOk_iff]
  · refine ⟨hphase, freqOk_iff.2 (.inr ?_), henv, hcoef, hy1, hy2, hy3, haccent⟩
    rcases freqOk_iff.1 hfreq with ⟨-, -, hzero⟩ | ⟨hcur, -⟩
    · rw [glides, htuning, hzero, Bool.and_eq_true, hardware_lt] at hglide
      exact absurd hglide.2 (slideThreshold_not_lt_zero _)
    · exact ⟨hcur, hnote⟩
  · refine ⟨hphase, freqOk_iff.2 (.inr ⟨hnote, hnote⟩), ?_, ?_, hy1, hy2, hy3, ?_⟩
    · rw [hardware_one, inUnit_iff]
      exact between_one.mono zero_le_one le_rfl
    · rw [htuning, inUnit_iff]
      exact triggerCoef_between a hsr hdecayMs
    · cases a with
      | false =>
        rw [if_neg (by decide), hardware_zero, inUnit_iff]
        exact between_zero.mono le_rfl zero_le_one
      | true => exact hamount

/-- The registers a rendered sample leaves (R198). -/
theorem renderVoice_snd {α : Type} (N : NumSys α) (p : Params α) (c : ConfigRegs α) (v : VoiceRegs α) :
    (renderVoice N p c v).2 =
      filterVoice N p c (oscillate N p c (glideVoice N p c v)).2
        (decayVoice N p (setPhase (oscillate N p c (glideVoice N p c v)).1 (glideVoice N p c v))) := rfl

theorem oscillate_fst {α : Type} (N : NumSys α) (p : Params α) (c : ConfigRegs α) (v : VoiceRegs α) :
    (oscillate N p c v).1 = advancePhase N v.phase (phaseIncrement N p.tuning.sr v.freqCurrent) := rfl

/-- R27, R137, R155: a rendered sample leaves the filter and the envelope finite, from every voice. -/
theorem renderVoice_finite (p : Params F32) (c : ConfigRegs F32) (v : VoiceRegs F32) :
    F32.isFinite (renderVoice hardware p c v).2.y1 = true ∧
      F32.isFinite (renderVoice hardware p c v).2.y2 = true ∧
      F32.isFinite (renderVoice hardware p c v).2.y3 = true ∧
      F32.isFinite (renderVoice hardware p c v).2.envValue = true := by
  rw [renderVoice_snd]
  obtain ⟨h1, h2, h3⟩ := isFinite_filterStepWith p.tuning (buildFbScale hardware p)
    (filterControls c
      (decayVoice hardware p
        (setPhase (oscillate hardware p c (glideVoice hardware p c v)).1 (glideVoice hardware p c v))))
    (oscillate hardware p c (glideVoice hardware p c v)).2
    (envelopeStep hardware p.tuning v.envValue v.decayCoef) ⟨v.y1, v.y2, v.y3⟩
  exact ⟨h1, h2, h3, isFinite_envelopeStep _ _ _⟩

/-- Settles O33: the guards of the filter and of the envelope. -/
theorem tickLeavesFilterAndEnvelopeFinite : Obligations.TickLeavesFilterAndEnvelopeFinite := by
  intro s
  refine ⟨_, exec_tick s, ?_⟩
  simpa using renderVoice_finite s.params s.cr (sequence hardware s.toEngineState).2.voice

/-- A glide step keeps both frequencies legal, and the frequency it moves to is not negative. -/
theorem freqOk_glide {p : Params F32} {c : ConfigRegs F32} {v : VoiceRegs F32} (hp : buildOk p = true)
    (hc : configOk c = true) (hv : freqOk v = true) :
    freqOk (glideVoice hardware p c v) = true ∧
      F32.isFinite (glideVoice hardware p c v).freqCurrent = true ∧
      0 ≤ F32.toReal (glideVoice hardware p c v).freqCurrent := by
  obtain ⟨hsr, htuning, -⟩ := buildOk_iff.1 hp
  obtain ⟨-, hslide, -⟩ := configOk_ranges hc
  rw [freqOk_iff, glideVoice_freqCurrent, glideVoice_freqTarget, glideVoice_envValue]
  rcases freqOk_iff.1 hv with ⟨hcur, htgt, henv⟩ | ⟨hcur, htgt⟩
  · rw [hcur, htgt, htuning, slideStep_zero hsr hslide, F32.toReal_zero]
    exact ⟨.inl ⟨rfl, rfl, henv⟩, isFinite_zero, le_rfl⟩
  · have hmoved := inNoteRange_slideStep hsr hslide hcur htgt
    have hbetween := inNoteRange_iff.1 hmoved
    rw [toReal_noteBounds.1] at hbetween
    exact ⟨.inr ⟨hmoved, htgt⟩, hbetween.finite, le_trans (by positivity) hbetween.lower⟩

/-- A rendered sample keeps the voice legal (R198). -/
theorem voiceOk_renderVoice {p : Params F32} {c : ConfigRegs F32} {v : VoiceRegs F32}
    (hp : buildOk p = true) (hc : configOk c = true) (hv : voiceOk v = true) :
    voiceOk (renderVoice hardware p c v).2 = true := by
  obtain ⟨hsr, htuning, -⟩ := buildOk_iff.1 hp
  obtain ⟨hphase, hfreq, henv, hcoef, -, -, -, haccent⟩ := voiceOk_iff.1 hv
  obtain ⟨hy1, hy2, hy3, -⟩ := renderVoice_finite p c v
  obtain ⟨hglide, hfin, hnonneg⟩ := freqOk_glide hp hc hfreq
  rw [voiceOk_iff]
  refine ⟨?_, ?_, ?_, hcoef, hy1, hy2, hy3, haccent⟩ <;> rw [renderVoice_snd]
  · rw [filterVoice_phase, decayVoice_phase, setPhase_phase, oscillate_fst]
    exact phaseOk_advancePhase hphase hsr hfin hnonneg
  · rw [freqOk_iff] at hglide ⊢
    refine hglide.imp_left fun ⟨hcur, htgt, hzero⟩ => ⟨hcur, htgt, ?_⟩
    rw [glideVoice_envValue] at hzero
    simp only [filterVoice_envValue, decayVoice_envValue, setPhase_envValue, glideVoice_envValue,
      setPhase_decayCoef, glideVoice_decayCoef]
    rw [hzero, htuning]
    exact envelopeStep_zero _ hcoef
  · exact inUnit_envelopeStep _ henv hcoef

/-! ### The whole state (R47) -/

theorem stateOk_iff {s : State} :
    stateOk s = true ↔ buildOk s.params = true ∧ voiceOk s.voice = true ∧ configOk s.cr = true ∧
      seqOk s.seq = true ∧ inOutRange s.out = true := by
  simp [stateOk, and_assoc]

theorem CommandEffect.keeps_voiceOk {s t : State} {i : Instr} (h : CommandEffect s i t)
    (hp : buildOk s.params = true) (hc : configOk s.cr = true) (hv : voiceOk s.voice = true) :
    voiceOk t.voice = true := by
  cases h with
  | tick =>
    simp only [State.sampleDone_toEngineState, State.onEngine_toEngineState, tickWith_voice]
    refine voiceOk_renderVoice hp hc ?_
    rcases sequence_voice_cases hardware s.toEngineState with h | ⟨m, a, sl, h⟩
    · rw [h]
      exact hv
    · rw [h]
      exact voiceOk_playNote m a sl hp hc hv
  | noteOn m a sl => exact voiceOk_playNote _ a sl hp hc hv
  | _ => exact hv

theorem CommandEffect.keeps_inOutRange {s t : State} {i : Instr} (h : CommandEffect s i t)
    (ho : inOutRange s.out = true) : inOutRange t.out = true := by
  cases h with
  | tick =>
    simp only [State.sampleDone_toEngineState, State.onEngine_toEngineState, tickWith_out]
    exact inOutRange_mixLimit _
  | _ => exact ho

theorem CommandEffect.keeps_stateOk {s t : State} {i : Instr} (h : CommandEffect s i t)
    (hs : stateOk s = true) : stateOk t = true := by
  obtain ⟨hp, hv, hc, hq, ho⟩ := stateOk_iff.1 hs
  refine stateOk_iff.2 ⟨?_, h.keeps_voiceOk hp hc hv, h.keeps_configOk hc, h.keeps_seqOk hq,
    h.keeps_inOutRange ho⟩
  rw [h.params_eq]
  exact hp

/-- A build whose sample rate is sampled anew stays one of the builds of R5. -/
theorem buildOk_sampleSr {p : Params F32} {sr : F32} (hp : buildOk p = true)
    (hsr : sampleRateAdmitted sr = true) : buildOk (sampleSr p sr) = true := by
  obtain ⟨-, htuning, hlaw, hrom, hcfg⟩ := buildOk_iff.1 hp
  refine buildOk_iff.2 ⟨hsr, ?_, hlaw, hrom, hcfg⟩
  rw [sampleSr, htuning]
  rfl

/-- The reset state of a legal build is legal (R46). -/
theorem stateOk_resetState {p : Params F32} (hp : buildOk p = true) : stateOk (resetState p) = true := by
  obtain ⟨-, -, -, -, hcfg⟩ := buildOk_iff.1 hp
  exact stateOk_iff.2 ⟨hp, (by decide +kernel : voiceOk (resetVoice hardware) = true), hcfg, rfl,
    (by decide +kernel : inOutRange hardware.zero = true)⟩

theorem stateOk_resetTo {s : State} {sr : F32} (rest : List PortEvent) (hs : stateOk s = true)
    (hsr : sampleRateAdmitted sr = true) : stateOk (s.resetTo sr rest) = true :=
  stateOk_resetState (buildOk_sampleSr (stateOk_iff.1 hs).1 hsr)

/-- Settles O35: every kind of command and every admitted reset keeps every group legal. -/
theorem stateInvariantKeptByEveryStep : Obligations.StateInvariantKeptByEveryStep := fun _ _ hs hstep =>
  step_invariant (P := fun s => stateOk s = true) (fun _ _ h => h) (fun _ _ _ he h => he.keeps_stateOk h)
    (fun _ _ rest hsr h => stateOk_resetTo rest h hsr) hs hstep

/-- Settles O34: the default build is legal. -/
theorem stateInvariantAtReset : Obligations.StateInvariantAtReset :=
  stateOk_resetState (by decide +kernel)

/-- Settles O6: R46's values, evaluated; `SPS` of the default tempo is 5512.5. -/
theorem resetValuesAreTheTable : Obligations.ResetValuesAreTheTable := by
  have hpatS : ∀ k, State.reset.readSynthStep k = emptySynthStep := fun k => Vector.getElem_replicate _
  have hpatD : ∀ k, State.reset.readDrumStep k = emptyDrumStep := fun k => Vector.getElem_replicate _
  exact ⟨by decide +kernel, rfl, by decide +kernel, rfl, rfl, hpatS, hpatD, rfl,
    by decide +kernel, rfl, rfl⟩

end Sys2Proof.Machine
end

section
/-! PROOFS. The latched registers (10_state.md R39): a `TICK` without a step event does not read the tempo,
the decay time or the accent amount. -/

namespace Sys2Proof.Machine

/-- The registers that only a step event or a trigger reads (R250, R152, R200). -/
def latchedRegs : List FloatReg := [.tempoBpm, .decayMs, .accentAmount]

section Latched

variable {α : Type} (N : NumSys α) (p : Params α) (c : ConfigRegs α) {r : FloatReg}

theorem renderVoice_writeReg (hr : r ∈ latchedRegs) (x : α) (v : VoiceRegs α) :
    renderVoice N p (writeReg c r x) v = renderVoice N p c v := by
  simp only [latchedRegs, List.mem_cons, List.not_mem_nil, or_false] at hr
  rcases hr with rfl | rfl | rfl <;> rfl

theorem mixOut_writeReg (hr : r ∈ latchedRegs) (x v : α) (d : DrumSamples α) :
    mixOut N (writeReg c r x) v d = mixOut N c v d := by
  simp only [latchedRegs, List.mem_cons, List.not_mem_nil, or_false] at hr
  rcases hr with rfl | rfl | rfl <;> rfl

/-- Without a step event SEQ's tick does not read the tempo (R250). -/
theorem seqTick_of_none {tempo : α} {q : SeqRegs α} (h : (seqTick N p tempo q).1 = none) (tempo' : α) :
    seqTick N p tempo' q = seqTick N p tempo q := by
  rcases seqTick_cases N p tempo q with ⟨hr, -⟩ | ⟨hr, hd, -⟩ | ⟨-, -, he⟩
  · simp [seqTick, hr]
  · simp [seqTick, hr, hd]
  · rw [he] at h
    cases h

/-- A write of a latched register commutes with a `TICK` without a step event. -/
theorem tickWith_writeReg (hr : r ∈ latchedRegs) (x : α) (oracle : DrumOracle α) (e : EngineState α)
    (h : (seqTick N e.params e.cr.tempoBpm e.seq).1 = none) :
    tickWith N oracle (e.setCr (writeReg e.cr r x)) =
      (tickWith N oracle e).setCr (writeReg (tickWith N oracle e).cr r x) := by
  have hseq := seqTick_of_none N e.params h (writeReg e.cr r x).tempoBpm
  have h' : (seqTick N (e.setCr (writeReg e.cr r x)).params (e.setCr (writeReg e.cr r x)).cr.tempoBpm
      (e.setCr (writeReg e.cr r x)).seq).1 = none := (congrArg Prod.fst hseq).trans h
  rw [tickWith_cr, tickWith_eq_emit, tickWith_eq_emit, sequence_of_none N e h, sequence_of_none N _ h']
  simp only [EngineState.setCr_params, EngineState.setCr_cr, EngineState.setCr_seq,
    EngineState.setSeq_voice, EngineState.setCr_voice, hseq, renderVoice_writeReg N _ _ hr,
    mixOut_writeReg N _ hr]
  rfl

/-- `SETF` with a given operand does nothing in every state, or writes one value in every state (R210). -/
theorem setFloat_uniform (r : FloatReg) (v : α) :
    (∀ e : EngineState α, setFloat N r v e = e) ∨
      ∃ x, ∀ e : EngineState α, setFloat N r v e = e.setCr (writeReg e.cr r x) := by
  cases h : N.isNaN v with
  | true => exact .inl fun e => if_pos h
  | false => exact .inr ⟨_, fun e => if_neg (by rw [h]; decide)⟩

end Latched

/-- The whole state after a `TICK` (R270), with the environment's record. -/
theorem afterCommand_tick (s : State) :
    afterCommand .tick s =
      { s with
        toEngineState := tickWith hardware s.drumOracle s.toEngineState
        outValid := true
        drumIn := s.drumIn.tail
        trigHistory := (tickWith hardware s.drumOracle s.toEngineState).trig :: s.trigHistory } := rfl

/-- What a command makes of the groups of R20 does not reach the environment's answer. -/
theorem drumOracle_onEngine (f : EngineState F32 → EngineState F32) (s : State) :
    (s.onEngine f).drumOracle = s.drumOracle := rfl

/-- A setter of a latched register commutes with a `TICK` without a step event. -/
theorem tick_comm_setFloat {s : State} {r : FloatReg} (hr : r ∈ latchedRegs) (v : F32)
    (h : stepEvent .tick s = none) :
    afterCommand .tick (s.onEngine (setFloat hardware r v)) =
      (afterCommand .tick s).onEngine (setFloat hardware r v) := by
  rcases setFloat_uniform hardware r v with hid | ⟨x, hwrite⟩
  · have hself : ∀ s : State, s.onEngine (setFloat hardware r v) = s := fun s => by
      rw [State.onEngine, hid]
    rw [hself, hself]
  · have hcomm := tickWith_writeReg hardware hr x s.drumOracle s.toEngineState h
    rw [afterCommand_tick, afterCommand_tick, drumOracle_onEngine]
    simp only [State.onEngine, hwrite, hcomm, EngineState.setCr_trig]

/-- Settles O53: the three setters write latched registers, which such a `TICK` does not read. -/
theorem latchedSettersLeaveTheNoteInFlight : Obligations.LatchedSettersLeaveTheNoteInFlight := by
  intro v s h i hi
  simp only [List.mem_cons, List.not_mem_nil, or_false] at hi
  rcases hi with rfl | rfl | rfl
  · exact tick_comm_setFloat (r := .tempoBpm) (by decide) v h
  · exact tick_comm_setFloat (r := .decayMs) (by decide) v h
  · exact tick_comm_setFloat (r := .accentAmount) (by decide) v h

end Sys2Proof.Machine
end

section
/-! PROOFS. A step on a command word (20_memory.md R66): the decoded command is performed (30_encoding.md
R95). -/

namespace Sys2Proof.Machine

/-- A word that decodes is performed as its command (R95). -/
theorem performWord_of_decode {w : CmdWord} {i : Instr} (h : decode w = .ok i) (s : State) :
    performWord w s = exec i s := by
  rw [performWord, h]

/-- Settles O1: the step takes the word, which is performed as its command. -/
theorem stepRunsTheDecodedCommand : Obligations.StepRunsTheDecodedCommand := by
  intro s w i rest hport hdecode
  calc step s
    _ = performWord w (s.accept rest) := step_command hport
    _ = exec i (s.accept rest) := performWord_of_decode hdecode _

end Sys2Proof.Machine
end

section
/-! PROOFS. Fields of the command word (30_encoding.md R80 to R88): what is cut from a position after it was
placed there, and what placing again makes of what was cut. -/

namespace Sys2Proof

/-! ### The two halves of a word (R80) -/

@[simp] theorem opcodeOf_commandWord (op : BitVec 8) (arg : BitVec 32) :
    opcodeOf (commandWord op arg) = op := BitVec.extractLsb'_append_eq_left

@[simp] theorem operandOf_commandWord (op : BitVec 8) (arg : BitVec 32) :
    operandOf (commandWord op arg) = arg := BitVec.extractLsb'_append_eq_right

theorem commandWord_opcodeOf_operandOf (w : CmdWord) : commandWord (opcodeOf w) (operandOf w) = w :=
  (BitVec.extractLsb'_append_extractLsb'_eq_extractLsb' rfl).trans BitVec.extractLsb'_eq_self

theorem commandWord_inj {op op' : BitVec 8} {arg arg' : BitVec 32} :
    commandWord op arg = commandWord op' arg' ↔ op = op' ∧ arg = arg' := by
  constructor
  · intro h
    exact ⟨by simpa using congrArg opcodeOf h, by simpa using congrArg operandOf h⟩
  · rintro ⟨rfl, rfl⟩
    rfl

theorem commandWord_and (op op' : BitVec 8) (arg arg' : BitVec 32) :
    commandWord op arg &&& commandWord op' arg' = commandWord (op &&& op') (arg &&& arg') :=
  Laws.append_and_append op op' arg arg'

/-! ### The bits of a placed field -/

theorem getLsbD_flagAt (b : Bool) (k j : Nat) :
    (flagAt b k).getLsbD j = (b && decide (j < 32) && decide (k = j)) := by
  cases b
  · simp [flagAt]
  · simp only [flagAt, if_true, BitVec.getLsbD_ofNat, Nat.testBit_two_pow, Bool.true_and]

theorem getLsbD_byteAt (v : BitVec 8) (k j : Nat) :
    (byteAt v k).getLsbD j = (decide (j < 32) && decide (k ≤ j) && v.getLsbD (j - k)) := by
  simp only [byteAt, BitVec.getLsbD_shiftLeft, BitVec.getLsbD_setWidth]
  grind

theorem getLsbD_byteField (arg : BitVec 32) (k j : Nat) :
    (byteField arg k).getLsbD j = (decide (j < 8) && arg.getLsbD (k + j)) := by
  simp [byteField]

/-! ### Cutting what was placed -/

@[simp] theorem flagBit_or (a b : BitVec 32) (k : Nat) :
    flagBit (a ||| b) k = (flagBit a k || flagBit b k) := BitVec.getLsbD_or

@[simp] theorem byteField_or (a b : BitVec 32) (k : Nat) :
    byteField (a ||| b) k = byteField a k ||| byteField b k := BitVec.extractLsb'_or

@[simp] theorem flagBit_flagAt (b : Bool) {k j : Nat} (h : j < 32) :
    flagBit (flagAt b k) j = (b && decide (k = j)) := by
  rw [flagBit, getLsbD_flagAt, decide_eq_true h, Bool.and_true]

/-- A byte has no bit outside its own eight. -/
@[simp] theorem flagBit_byteAt (v : BitVec 8) {k j : Nat} (h : j < k ∨ k + 8 ≤ j) :
    flagBit (byteAt v k) j = false := by
  rw [flagBit, getLsbD_byteAt]
  grind

@[simp] theorem byteField_flagAt (b : Bool) {k j : Nat} (h : j < k ∨ k + 8 ≤ j) :
    byteField (flagAt b j) k = 0#8 := by
  apply BitVec.eq_of_getLsbD_eq
  intro i hi
  rw [getLsbD_byteField, getLsbD_flagAt]
  grind

@[simp] theorem byteField_byteAt_same (v : BitVec 8) {k : Nat} (h : k + 8 ≤ 32) :
    byteField (byteAt v k) k = v := by
  apply BitVec.eq_of_getLsbD_eq
  intro i hi
  rw [getLsbD_byteField, getLsbD_byteAt]
  grind

@[simp] theorem byteField_byteAt_apart (v : BitVec 8) {k j : Nat} (h : j + 8 ≤ k ∨ k + 8 ≤ j) :
    byteField (byteAt v j) k = 0#8 := by
  apply BitVec.eq_of_getLsbD_eq
  intro i hi
  rw [getLsbD_byteField, getLsbD_byteAt]
  grind

/-! ### Placing what was cut -/

/-- A flag cut and placed again: the operand under the mask of that one bit. -/
theorem flagAt_flagBit (arg : BitVec 32) (k : Nat) :
    flagAt (flagBit arg k) k = arg &&& flagAt true k := by
  apply BitVec.eq_of_getLsbD_eq
  intro i hi
  rw [BitVec.getLsbD_and, getLsbD_flagAt, getLsbD_flagAt, flagBit]
  grind

/-- A byte cut and placed again: the operand under the mask of those eight bits. -/
theorem byteAt_byteField (arg : BitVec 32) (k : Nat) :
    byteAt (byteField arg k) k = arg &&& byteAt (BitVec.allOnes 8) k := by
  apply BitVec.eq_of_getLsbD_eq
  intro i hi
  rw [BitVec.getLsbD_and, getLsbD_byteAt, getLsbD_byteAt, getLsbD_byteField, BitVec.getLsbD_allOnes]
  grind

theorem and_fullMask (arg : BitVec 32) : arg &&& 0xFFFFFFFF#32 = arg := BitVec.and_allOnes

/-- With no bit in the mask `m`, an operand is all in the rest. -/
theorem and_not_eq_self {arg m : BitVec 32} (h : arg &&& m = 0#32) : arg &&& ~~~m = arg := by
  calc arg &&& ~~~m
    _ = arg &&& m ||| arg &&& ~~~m := by rw [h, BitVec.zero_or]
    _ = arg := by rw [← BitVec.and_or_distrib_left, BitVec.or_not_self, BitVec.and_allOnes]

end Sys2Proof
end

section
/-! PROOFS. The decoder and the encoder (30_encoding.md R95): each undoes the other. The idea is to compare
both with `opcodeEntry`, the rows of R90 with the fields cut: a command's own opcode and operand give its
entry, and an entry's command has that opcode and, where no "zero" bit is 1, that operand. -/

namespace Sys2Proof

/-! ### The three formats with fields -/

@[simp] theorem cutNote_operandBits (midi : BitVec 8) (accent slide : Bool) :
    cutNote (operandBits (.noteOn midi accent slide)) = .noteOn midi accent slide := by
  simp [cutNote, operandBits]

@[simp] theorem cutSynthStep_operandBits (index note : BitVec 8) (accent slide active : Bool) :
    cutSynthStep (operandBits (.setSynthStep index note accent slide active)) =
      .setSynthStep index note accent slide active := by
  simp [cutSynthStep, operandBits]

@[simp] theorem cutDrumStep_operandBits (index : BitVec 8) (kick snare closedHh openHh : Bool) :
    cutDrumStep (operandBits (.setDrumStep index kick snare closedHh openHh)) =
      .setDrumStep index kick snare closedHh openHh := by
  simp [cutDrumStep, operandBits]

/-- The fields of format K are all the bits it does not mark "zero". -/
theorem operandBits_cutNote (arg : BitVec 32) : operandBits (cutNote arg) = arg &&& ~~~zeroMask .K := by
  simp only [cutNote, operandBits, byteAt_byteField, flagAt_flagBit, ← BitVec.and_or_distrib_left]
  rfl

/-- The fields of format P are all the bits it does not mark "zero". -/
theorem operandBits_cutSynthStep (arg : BitVec 32) :
    operandBits (cutSynthStep arg) = arg &&& ~~~zeroMask .P := by
  simp only [cutSynthStep, operandBits, byteAt_byteField, flagAt_flagBit, ← BitVec.and_or_distrib_left]
  rfl

/-- The fields of format Q are all the bits it does not mark "zero". -/
theorem operandBits_cutDrumStep (arg : BitVec 32) :
    operandBits (cutDrumStep arg) = arg &&& ~~~zeroMask .Q := by
  simp only [cutDrumStep, operandBits, byteAt_byteField, flagAt_flagBit, ← BitVec.and_or_distrib_left]
  rfl

/-! ### The rows of R90 with the fields cut -/

/-- A command's own opcode and operand give its entry. -/
theorem opcodeEntry_operandBits (i : Instr) :
    ∃ format, opcodeEntry (opcodeByte i) (operandBits i) = some (format, i) := by
  cases i with
  | noteOn midi accent slide => exact ⟨.K, by simp [opcodeEntry, opcodeByte]⟩
  | setSynthStep index note accent slide active => exact ⟨.P, by simp [opcodeEntry, opcodeByte]⟩
  | setDrumStep index kick snare closedHh openHh => exact ⟨.Q, by simp [opcodeEntry, opcodeByte]⟩
  | _ => exact ⟨_, rfl⟩

/-- The command of an entry bears the entry's opcode, and its operand is all the bits not marked "zero". -/
theorem opcodeEntry_inv {op : BitVec 8} {arg : BitVec 32} {format : Format} {i : Instr}
    (h : opcodeEntry op arg = some (format, i)) :
    opcodeByte i = op ∧ operandBits i = arg &&& ~~~zeroMask format := by
  unfold opcodeEntry at h
  split at h <;> cases h <;> refine ⟨BitVec.eq_of_toNat_eq (Eq.symm ‹_›), ?_⟩
  case h_2 => exact operandBits_cutNote arg
  case h_20 => exact operandBits_cutSynthStep arg
  case h_21 => exact operandBits_cutDrumStep arg
  all_goals simp [operandBits, zeroMask, and_fullMask]

/-! ### The round trip -/

theorem decode_eq_ok_iff {w : CmdWord} {i : Instr} :
    decode w = .ok i ↔ ∃ format, opcodeEntry (opcodeOf w) (operandOf w) = some (format, i) ∧
      operandOf w &&& zeroMask format = 0#32 := by
  rw [decode]
  cases opcodeEntry (opcodeOf w) (operandOf w) with
  | none => simp
  | some entry =>
    by_cases hz : operandOf w &&& zeroMask entry.1 = 0#32 <;> simp [hz, Prod.ext_iff]

/-- A word that decodes is the encoding of its command. -/
theorem encode_of_decode {w : CmdWord} {i : Instr} (h : decode w = .ok i) : encode i = w := by
  obtain ⟨format, hentry, hzero⟩ := decode_eq_ok_iff.1 h
  obtain ⟨hop, harg⟩ := opcodeEntry_inv hentry
  rw [and_not_eq_self hzero] at harg
  rw [encode, hop, harg, commandWord_opcodeOf_operandOf]

/-- The encoding of a command has no "zero" bit at 1, so it decodes, and to that command. -/
theorem decode_encode (i : Instr) : decode (encode i) = .ok i := by
  obtain ⟨format, hentry⟩ := opcodeEntry_operandBits i
  have hzero : operandBits i &&& zeroMask format = 0#32 := by
    rw [(opcodeEntry_inv hentry).2, BitVec.and_assoc, BitVec.and_comm (~~~zeroMask format),
      BitVec.and_not_self]
    exact BitVec.and_zero
  exact decode_eq_ok_iff.2 ⟨format, by simpa [encode] using hentry, by simpa [encode] using hzero⟩

/-- Settles O8: the two directions of the round trip. -/
theorem decodeAndEncodeAreInverse : Obligations.DecodeAndEncodeAreInverse :=
  ⟨decode_encode, fun _ _ => encode_of_decode⟩

/-- Settles O7: the decoder run on each word. -/
theorem specExampleWordsDecode : Obligations.SpecExampleWordsDecode := by
  unfold Obligations.SpecExampleWordsDecode
  decide

end Sys2Proof
end

section
/-! PROOFS. The opcode table (30_encoding.md R90 to R92) against the decoder of R95: a row is an opcode with
the "zero" bits of its format, so a word that matches a row is one with the row's opcode that decodes; and
each command has exactly one row. -/

namespace Sys2Proof

/-! ### The rows as opcodes with formats -/

/-- The column "opcode" of R90, in the table's order. -/
def tableOpcodes : List (BitVec 8) := opcodeRows.map fun r => opcodeOf r.matchBits

theorem tableOpcodes_eq : tableOpcodes =
    [0x01#8, 0x02#8, 0x03#8, 0x04#8, 0x05#8, 0x10#8, 0x11#8, 0x12#8, 0x13#8, 0x14#8, 0x15#8, 0x16#8,
      0x17#8, 0x18#8, 0x20#8, 0x21#8, 0x22#8, 0x23#8, 0x24#8, 0x30#8, 0x31#8, 0x40#8, 0x41#8, 0x42#8,
      0x43#8] := by
  decide

/-- The column "format" of R90; `none` for a reserved opcode. -/
def opcodeFormat (op : BitVec 8) : Option Format := (opcodeEntry op 0#32).map Prod.fst

/-- The format does not depend on the operand. -/
theorem opcodeEntry_fst (op : BitVec 8) (arg : BitVec 32) :
    (opcodeEntry op arg).map Prod.fst = opcodeFormat op := by
  unfold opcodeFormat opcodeEntry
  split <;> rfl

/-- Columns "match" and "mask" are the row's opcode and the "zero" bits of its format. -/
theorem opcodeRow_columns : ∀ r ∈ opcodeRows, ∃ format ∈ opcodeFormat (opcodeOf r.matchBits),
    r.matchBits = commandWord (opcodeOf r.matchBits) 0#32 ∧
      r.mask = commandWord 0xFF#8 (zeroMask format) := by
  decide

/-- The opcode compared whole, the operand at its "zero" bits. -/
theorem and_mask_eq_iff (w : CmdWord) (op : BitVec 8) (zeros : BitVec 32) :
    w &&& commandWord 0xFF#8 zeros = commandWord op 0#32 ↔
      opcodeOf w = op ∧ operandOf w &&& zeros = 0#32 := by
  have hop : opcodeOf w &&& 0xFF#8 = opcodeOf w := BitVec.and_allOnes
  conv_lhs => rw [← commandWord_opcodeOf_operandOf w, commandWord_and, commandWord_inj, hop]

/-- A word matches a row (`w & mask = match`) if it has the row's opcode and decodes. -/
theorem matches_iff {r : OpcodeRow} (hr : r ∈ opcodeRows) (w : CmdWord) :
    r.matches w = true ↔ opcodeOf w = opcodeOf r.matchBits ∧ ∃ i, decode w = .ok i := by
  obtain ⟨format, hformat, hmatch, hmask⟩ := opcodeRow_columns r hr
  rw [OpcodeRow.matches, beq_iff_eq, hmask, hmatch, and_mask_eq_iff, opcodeOf_commandWord]
  refine and_congr_right fun hop => ?_
  have hentry := opcodeEntry_fst (opcodeOf w) (operandOf w)
  rw [hop, Option.mem_def.1 hformat, Option.map_eq_some_iff] at hentry
  obtain ⟨⟨_, i⟩, hentry, rfl⟩ := hentry
  simp only [decode_eq_ok_iff, hop, hentry, Option.some.injEq, Prod.mk.injEq]
  exact ⟨fun hzero => ⟨i, _, ⟨rfl, rfl⟩, hzero⟩, fun ⟨_, _, ⟨hf, _⟩, hzero⟩ => hf ▸ hzero⟩

/-! ### The row of a command -/

/-- The encoding of a command matches a row that bears its mnemonic. -/
theorem encode_matches (i : Instr) : Laws.EncodeMatches.Statement i := by
  cases i with
  | tick => exact Laws.EncodeMatches.tick
  | noteOn midi accent slide => exact Laws.EncodeMatches.noteOn midi accent slide
  | noteOff => exact Laws.EncodeMatches.noteOff
  | start => exact Laws.EncodeMatches.start
  | stop => exact Laws.EncodeMatches.stop
  | setWaveform w => exact Laws.EncodeMatches.setWaveform w
  | setCutoff v => exact Laws.EncodeMatches.setCutoff v
  | setResonance v => exact Laws.EncodeMatches.setResonance v
  | setEnvMod v => exact Laws.EncodeMatches.setEnvMod v
  | setDecay v => exact Laws.EncodeMatches.setDecay v
  | setAccent v => exact Laws.EncodeMatches.setAccent v
  | setSlideTime v => exact Laws.EncodeMatches.setSlideTime v
  | setDistortion v => exact Laws.EncodeMatches.setDistortion v
  | setTempo v => exact Laws.EncodeMatches.setTempo v
  | setSynthVolume v => exact Laws.EncodeMatches.setSynthVolume v
  | setDrumVolume v => exact Laws.EncodeMatches.setDrumVolume v
  | setKickVolume v => exact Laws.EncodeMatches.setKickVolume v
  | setSnareVolume v => exact Laws.EncodeMatches.setSnareVolume v
  | setHihatVolume v => exact Laws.EncodeMatches.setHihatVolume v
  | setSynthStep index note accent slide active =>
    exact Laws.EncodeMatches.setSynthStep index note accent slide active
  | setDrumStep index kick snare closedHh openHh =>
    exact Laws.EncodeMatches.setDrumStep index kick snare closedHh openHh
  | getSynthStep => exact Laws.EncodeMatches.getSynthStep
  | getDrumStep => exact Laws.EncodeMatches.getDrumStep
  | synthStepChanged => exact Laws.EncodeMatches.synthStepChanged
  | drumStepChanged => exact Laws.EncodeMatches.drumStepChanged

/-- A word that decodes matches a row, and that row bears its command's mnemonic. -/
theorem exists_row_of_decode {w : CmdWord} {i : Instr} (h : decode w = .ok i) :
    ∃ r ∈ opcodeRows, r.mnemonic = i.mnemonic ∧ r.matches w = true := by
  have hrow := encode_matches i
  rwa [Laws.EncodeMatches.Statement, encode_of_decode h] at hrow

/-- R90: the words that decode are those that match a row. -/
theorem decodes_iff_matches (w : CmdWord) :
    (∃ i, decode w = .ok i) ↔ ∃ r ∈ opcodeRows, r.matches w = true := by
  constructor
  · rintro ⟨i, hdecode⟩
    obtain ⟨r, hr, -, hmatches⟩ := exists_row_of_decode hdecode
    exact ⟨r, hr, hmatches⟩
  · rintro ⟨r, hr, hmatches⟩
    exact ((matches_iff hr w).1 hmatches).2

/-- No opcode stands in two rows. -/
theorem opcodeRow_eq_of_opcode {r r' : OpcodeRow} (hr : r ∈ opcodeRows) (hr' : r' ∈ opcodeRows)
    (h : opcodeOf r.matchBits = opcodeOf r'.matchBits) : r = r' :=
  List.inj_on_of_nodup_map (show tableOpcodes.Nodup by decide) hr hr' h

/-- No mnemonic stands in two rows. -/
theorem opcodeRow_eq_of_mnemonic {r r' : OpcodeRow} (hr : r ∈ opcodeRows) (hr' : r' ∈ opcodeRows)
    (h : r.mnemonic = r'.mnemonic) : r = r' :=
  List.inj_on_of_nodup_map (show (opcodeRows.map OpcodeRow.mnemonic).Nodup by decide) hr hr' h

/-- Of all rows, a word that decodes matches the one that bears its command's mnemonic. -/
theorem matches_iff_mnemonic {w : CmdWord} {i : Instr} (h : decode w = .ok i) {r : OpcodeRow}
    (hr : r ∈ opcodeRows) : r.matches w = true ↔ r.mnemonic = i.mnemonic := by
  obtain ⟨row, hrow, hmnemonic, hmatches⟩ := exists_row_of_decode h
  constructor
  · intro hm
    have hopcode := ((matches_iff hr w).1 hm).1.symm.trans ((matches_iff hrow w).1 hmatches).1
    rw [opcodeRow_eq_of_opcode hr hrow hopcode, hmnemonic]
  · intro hm
    rwa [opcodeRow_eq_of_mnemonic hr hrow (hm.trans hmnemonic.symm)]

/-! ### Opcodes and register numbers -/

/-- R90: a float setter's opcode is `0x10` plus its register's number, from register 9 on `0x20` plus the
number less 9. -/
theorem opcodeByte_floatSetters (v : F32) : ∀ row ∈ Machine.floatSetters v,
    (opcodeByte row.1).toNat =
      if row.2.1.number < 9 then 0x10 + row.2.1.number else 0x20 + (row.2.1.number - 9) := by
  simp [Machine.floatSetters, opcodeByte, Machine.FloatReg.number]

/-- Settles O9: the table's length, the words accepted, the row of each, and the setters' opcodes. -/
theorem decoderFollowsTheOpcodeTable : Obligations.DecoderFollowsTheOpcodeTable :=
  ⟨rfl, decodes_iff_matches, fun _ _ h _ hr => matches_iff_mnemonic h hr, opcodeByte_floatSetters⟩

/-! ### Reserved words -/

theorem opcodeDefined_commandWord (op : BitVec 8) (arg : BitVec 32) :
    opcodeDefined (commandWord op arg) = true ↔ op ∈ tableOpcodes := by
  simp [opcodeDefined, tableOpcodes]

/-- R91: the reserved opcodes, range by range. -/
theorem not_mem_tableOpcodes_iff (op : BitVec 8) : op ∉ tableOpcodes ↔
    (op.toNat = 0x00 ∨ (0x06 ≤ op.toNat ∧ op.toNat ≤ 0x0F) ∨ (0x19 ≤ op.toNat ∧ op.toNat ≤ 0x1F) ∨
      (0x25 ≤ op.toNat ∧ op.toNat ≤ 0x2F) ∨ (0x32 ≤ op.toNat ∧ op.toNat ≤ 0x3F) ∨
      0x44 ≤ op.toNat) := by
  simp only [tableOpcodes_eq, List.mem_cons, List.not_mem_nil, or_false, ← BitVec.toNat_inj,
    BitVec.toNat_ofNat]
  omega

end Sys2Proof
end

section
/-! PROOFS. A step on a reserved word (30_encoding.md R91, R92). -/

namespace Sys2Proof.Machine

/-- R91, R92: a word that matches no row is ignored. -/
theorem performWord_of_no_row {w : CmdWord} (h : ∀ r ∈ opcodeRows, r.matches w = false)
    (s : State) : performWord w s = .next s := by
  cases hdecode : decode w with
  | error reason => rw [performWord, hdecode]
  | ok i =>
    obtain ⟨r, hr, -, hmatches⟩ := exists_row_of_decode hdecode
    exact absurd hmatches (by simp [h r hr])

/-- Settles O3: the reserved opcodes, and the step that takes the word and ignores it. -/
theorem reservedWordIsIgnored : Obligations.ReservedWordIsIgnored := by
  constructor
  · intro op arg
    rw [← Bool.not_eq_true, opcodeDefined_commandWord, not_mem_tableOpcodes_iff]
  · intro s w rest hport hrows
    calc step s
      _ = performWord w (s.accept rest) := step_command hport
      _ = .next (s.accept rest) := performWord_of_no_row hrows _

end Sys2Proof.Machine
end

section
/-! PROOFS. The expansion of `LOAD_SYNTH_PRESET` (30_encoding.md R97, 46_environment.md R254). -/

namespace Sys2Proof.Machine

@[simp] theorem voiceSetters_length (v : VoiceConfig) : (voiceSetters v).length = 8 := rfl

@[simp] theorem stepSetters_length (steps : Vector PresetStep 16) : (stepSetters steps).length = 16 := by
  simp [stepSetters]

/-- Setter `k` of the pattern loads step `k`. -/
theorem stepSetters_getElem? (steps : Vector PresetStep 16) (k : Fin 16) :
    (stepSetters steps)[k.val]? =
      some (.setSynthStep (BitVec.ofNat 8 k.val) steps[k].note steps[k].accent steps[k].slide
        steps[k].active) := by
  simp [stepSetters]

theorem tick_not_mem_voiceSetters (v : VoiceConfig) : Instr.tick ∉ voiceSetters v := by
  simp [voiceSetters]

theorem tick_not_mem_stepSetters (steps : Vector PresetStep 16) : Instr.tick ∉ stepSetters steps := by
  simp [stepSetters, List.mem_mapIdx]

theorem loadSynthPreset_of_length_le {presets : List Preset} {i : Nat} (h : presets.length ≤ i) :
    loadSynthPreset presets i = [] := by
  rw [loadSynthPreset, List.getElem?_eq_none h]

theorem loadSynthPreset_of_getElem? {presets : List Preset} {i : Nat} {p : Preset}
    (h : presets[i]? = some p) :
    loadSynthPreset presets i =
      .setTempo p.tempo :: (voiceSetters p.voiceConfig ++ stepSetters p.steps) := by
  rw [loadSynthPreset, h]

/-- Settles O10: the tempo, then the eight voice setters, which are read off, then the sixteen steps. -/
theorem presetLoadIsABurstOfSetters : Obligations.PresetLoadIsABurstOfSetters := by
  intro presets i
  refine ⟨loadSynthPreset_of_length_le, fun p hp => ?_⟩
  rw [loadSynthPreset_of_getElem? hp]
  refine ⟨by simp, rfl, rfl, rfl, rfl, rfl, rfl, rfl, rfl, rfl, fun k => ?_, ?_⟩
  · rw [← stepSetters_getElem?, show 9 + k.val = (8 + k.val) + 1 by omega, List.getElem?_cons_succ,
      List.getElem?_append_right (by simp)]
    simp
  · simp [tick_not_mem_voiceSetters, tick_not_mem_stepSetters]

end Sys2Proof.Machine
end

section
/-! PROOFS. OSC over the reals (40_oscillator.md): what `poly_blep` is in, between and outside its windows
(R112, R113), and the ranges of the two waveforms (R119). -/

namespace Sys2Proof.Machine

/-! ### The number system of the reals (R7) -/

@[simp] theorem realNum_add (a b : ℝ) : realNum.add a b = a + b := rfl
@[simp] theorem realNum_sub (a b : ℝ) : realNum.sub a b = a - b := rfl
@[simp] theorem realNum_mul (a b : ℝ) : realNum.mul a b = a * b := rfl
@[simp] theorem realNum_div (a b : ℝ) : realNum.div a b = a / b := rfl
@[simp] theorem realNum_neg (a : ℝ) : realNum.neg a = -a := rfl
@[simp] theorem realNum_abs (a : ℝ) : realNum.abs a = |a| := rfl
@[simp] theorem realNum_floor (a : ℝ) : realNum.floor a = ⌊a⌋ := rfl
@[simp] theorem realNum_exp (a : ℝ) : realNum.exp a = Real.exp a := rfl
@[simp] theorem realNum_tanh (a : ℝ) : realNum.tanh a = Real.tanh a := rfl
@[simp] theorem realNum_lt (a b : ℝ) : realNum.lt a b = decide (a < b) := rfl
@[simp] theorem realNum_le (a b : ℝ) : realNum.le a b = decide (a ≤ b) := rfl
@[simp] theorem realNum_isFinite (a : ℝ) : realNum.isFinite a = true := rfl
@[simp] theorem realNum_isNaN (a : ℝ) : realNum.isNaN a = false := rfl
@[simp] theorem realNum_ofNat (n : Nat) : realNum.ofNat n = n := rfl
@[simp] theorem realNum_lit (c : F32) : realNum.lit c = F32.toReal c := rfl
@[simp] theorem realNum_zero : realNum.zero = 0 := Nat.cast_zero
@[simp] theorem realNum_one : realNum.one = 1 := Nat.cast_one
@[simp] theorem realNum_two : realNum.two = 2 := Nat.cast_ofNat
@[simp] theorem toReal_constHalf : F32.toReal constHalf = 1 / 2 := F32.toReal_half

section Oscillator

variable {t u p dt : ℝ}

/-! ### The correction (R112, R113) -/

/-- The two polynomials of R112, as squares. -/
theorem polyBlep_real (t dt : ℝ) :
    polyBlep realNum t dt =
      if t < dt then -(1 - t / dt) ^ 2 else if 1 - dt < t then (1 + (t - 1) / dt) ^ 2 else 0 := by
  simp only [polyBlep, realNum_add, realNum_sub, realNum_mul, realNum_div, realNum_lt, realNum_zero,
    realNum_one, realNum_two, decide_eq_true_eq]
  split_ifs <;> ring

/-- The first window. -/
theorem polyBlep_of_lt (h : t < dt) : polyBlep realNum t dt = -(1 - t / dt) ^ 2 := by
  rw [polyBlep_real, if_pos h]

/-- The second window, where the first does not hold. -/
theorem polyBlep_of_one_sub_lt (h : dt ≤ t) (h' : 1 - dt < t) :
    polyBlep realNum t dt = (1 + (t - 1) / dt) ^ 2 := by
  rw [polyBlep_real, if_neg h.not_gt, if_pos h']

/-- Outside both windows. -/
theorem polyBlep_of_le_of_le (h : dt ≤ t) (h' : t ≤ 1 - dt) : polyBlep realNum t dt = 0 := by
  rw [polyBlep_real, if_neg h.not_gt, if_neg h'.not_gt]

/-- Where a phase is: in the first window, in the second, or in neither. -/
theorem window_cases (t dt : ℝ) : t < dt ∨ (dt ≤ t ∧ 1 - dt < t) ∨ (dt ≤ t ∧ t ≤ 1 - dt) := by
  rcases lt_or_ge t dt with h | h
  · exact .inl h
  · exact .inr ((lt_or_ge (1 - dt) t).imp (.intro h) (.intro h))

/-- The variable of the first window. -/
theorem firstWindow_mem (h0 : 0 ≤ t) (h : t < dt) : 0 ≤ t / dt ∧ t / dt < 1 :=
  ⟨div_nonneg h0 (h0.trans h.le), (div_lt_one (h0.trans_lt h)).2 h⟩

/-- The variable of the second window. -/
theorem secondWindow_mem (h : 1 - dt < t) (h1 : t < 1) : -1 < (t - 1) / dt ∧ (t - 1) / dt < 0 := by
  have hdt : 0 < dt := by linarith
  exact ⟨(lt_div_iff₀ hdt).2 (by linarith), div_neg_of_neg_of_pos (by linarith) hdt⟩

theorem polyBlep_nonneg (h : dt ≤ t) : 0 ≤ polyBlep realNum t dt := by
  rw [polyBlep_real, if_neg h.not_gt]
  split
  · positivity
  · exact le_rfl

theorem polyBlep_nonpos (h : t ≤ 1 - dt) : polyBlep realNum t dt ≤ 0 := by
  rw [polyBlep_real, if_neg h.not_gt]
  split
  · exact neg_nonpos.2 (sq_nonneg _)
  · exact le_rfl

/-- R113: the correction is at most 1 in magnitude. -/
theorem abs_polyBlep_le_one (h0 : 0 ≤ t) (h1 : t < 1) : |polyBlep realNum t dt| ≤ 1 := by
  rcases window_cases t dt with h | ⟨h, h'⟩ | ⟨h, h'⟩
  · obtain ⟨hlo, hhi⟩ := firstWindow_mem h0 h
    rw [polyBlep_of_lt h, abs_neg, abs_sq, sq_le_one_iff_abs_le_one, abs_le]
    constructor <;> linarith
  · obtain ⟨hlo, hhi⟩ := secondWindow_mem h' h1
    rw [polyBlep_of_one_sub_lt h h', abs_sq, sq_le_one_iff_abs_le_one, abs_le]
    constructor <;> linarith
  · rw [polyBlep_of_le_of_le h h', abs_zero]
    exact zero_le_one

/-- R113: the correction rises in the first window. -/
theorem polyBlep_mono_first (h0 : 0 ≤ t) (htu : t ≤ u) (hu : u < dt) :
    polyBlep realNum t dt ≤ polyBlep realNum u dt := by
  have hdiv : t / dt ≤ u / dt := div_le_div_of_nonneg_right htu ((h0.trans htu).trans hu.le)
  have hlt := (firstWindow_mem (h0.trans htu) hu).2
  rw [polyBlep_of_lt (htu.trans_lt hu), polyBlep_of_lt hu, neg_le_neg_iff]
  exact pow_le_pow_left₀ (by linarith) (by linarith) 2

/-- R113: the correction rises in the second window. -/
theorem polyBlep_mono_second (h : dt ≤ t) (h' : 1 - dt < t) (htu : t ≤ u) (hu : u < 1) :
    polyBlep realNum t dt ≤ polyBlep realNum u dt := by
  have hdiv : (t - 1) / dt ≤ (u - 1) / dt := div_le_div_of_nonneg_right (by linarith) (by linarith)
  have hlt := (secondWindow_mem h' (htu.trans_lt hu)).1
  rw [polyBlep_of_one_sub_lt h h', polyBlep_of_one_sub_lt (h.trans htu) (h'.trans_le htu)]
  exact pow_le_pow_left₀ (by linarith) (by linarith) 2

/-- R118 (c): at phase 0 the correction is -1. -/
theorem polyBlep_zero (hdt : 0 < dt) : polyBlep realNum 0 dt = -1 := by
  rw [polyBlep_of_lt hdt]
  norm_num

/-! ### The sawtooth (R115) -/

theorem sawSample_real (p dt : ℝ) : sawSample realNum p dt = 2 * p - 1 - polyBlep realNum p dt := by
  simp [sawSample]

/-- R119: in a window the corrected ramp is a product that lies between the ramp and 0. -/
theorem abs_sawSample_le_one (h0 : 0 ≤ p) (h1 : p < 1) (hdt : dt ≤ 1 / 2) :
    |sawSample realNum p dt| ≤ 1 := by
  rw [sawSample_real, abs_le]
  rcases window_cases p dt with h | ⟨h, h'⟩ | ⟨h, h'⟩
  · obtain ⟨hlo, hhi⟩ := firstWindow_mem h0 h
    have hp : p = p / dt * dt := (div_mul_cancel₀ p (h0.trans_lt h).ne').symm
    have hsaw : 2 * p - 1 + (1 - p / dt) ^ 2 = p / dt * (2 * dt - 2 + p / dt) := by
      linear_combination 2 * hp
    rw [polyBlep_of_lt h, sub_neg_eq_add, hsaw]
    constructor <;> nlinarith
  · obtain ⟨hlo, hhi⟩ := secondWindow_mem h' h1
    have hp : p - 1 = (p - 1) / dt * dt := (div_mul_cancel₀ _ (by linarith)).symm
    have hsaw : 2 * p - 1 - (1 + (p - 1) / dt) ^ 2 = -((p - 1) / dt) * (2 - 2 * dt + (p - 1) / dt) := by
      linear_combination 2 * hp
    rw [polyBlep_of_one_sub_lt h h', hsaw]
    constructor <;> nlinarith
  · rw [polyBlep_of_le_of_le h h']
    constructor <;> linarith

/-- R119: for every increment, since the correction is at most 1. -/
theorem abs_sawSample_le_two (h0 : 0 ≤ p) (h1 : p < 1) : |sawSample realNum p dt| ≤ 2 := by
  obtain ⟨hlo, hhi⟩ := abs_le.1 (abs_polyBlep_le_one (dt := dt) h0 h1)
  rw [sawSample_real, abs_le]
  constructor <;> linarith

/-! ### The square (R116) -/

theorem oppositePhase_of_lt_half (h : p < 1 / 2) : oppositePhase realNum p = p + 1 / 2 := by
  have hlt : ¬1 ≤ p + 1 / 2 := by linarith
  simp only [oppositePhase, realNum_add, realNum_le, realNum_lit, realNum_one, toReal_constHalf]
  rw [decide_eq_false hlt, if_neg Bool.false_ne_true]

theorem oppositePhase_of_half_le (h : 1 / 2 ≤ p) : oppositePhase realNum p = p - 1 / 2 := by
  have hle : 1 ≤ p + 1 / 2 := by linarith
  simp only [oppositePhase, realNum_add, realNum_sub, realNum_le, realNum_lit, realNum_one,
    toReal_constHalf]
  rw [decide_eq_true hle, if_pos rfl]
  ring

/-- The square in its high half, in the two sign conventions. -/
theorem squareSample_of_lt_half (h : p < 1 / 2) :
    squareSample realNum .corrected p dt =
        1 + polyBlep realNum p dt - polyBlep realNum (p + 1 / 2) dt ∧
      squareSample realNum .literal p dt =
        1 - polyBlep realNum p dt + polyBlep realNum (p + 1 / 2) dt := by
  simp only [squareSample, oppositePhase_of_lt_half h, realNum_lt, realNum_lit, toReal_constHalf,
    decide_eq_true h, if_true, realNum_one, realNum_add, realNum_sub, and_self]

/-- The square in its low half, in the two sign conventions. -/
theorem squareSample_of_half_le (h : 1 / 2 ≤ p) :
    squareSample realNum .corrected p dt =
        -1 + polyBlep realNum p dt - polyBlep realNum (p - 1 / 2) dt ∧
      squareSample realNum .literal p dt =
        -1 - polyBlep realNum p dt + polyBlep realNum (p - 1 / 2) dt := by
  simp only [squareSample, oppositePhase_of_half_le h, realNum_lt, realNum_lit, toReal_constHalf,
    decide_eq_false h.not_gt, Bool.false_eq_true, if_false, realNum_neg, realNum_one, realNum_add,
    realNum_sub, and_self]

/-- R119: each of the two corrections pulls the level towards 0; even together by at most 2. -/
theorem abs_squareSample_le_one (h0 : 0 ≤ p) (h1 : p < 1) (hdt : dt ≤ 1 / 2) :
    |squareSample realNum .corrected p dt| ≤ 1 := by
  have hp := abs_le.1 (abs_polyBlep_le_one (dt := dt) h0 h1)
  rcases lt_or_ge p (1 / 2) with h | h
  · have hrise : polyBlep realNum p dt ≤ 0 := polyBlep_nonpos (by linarith)
    have hfall : 0 ≤ polyBlep realNum (p + 1 / 2) dt := polyBlep_nonneg (by linarith)
    have hopp := abs_le.1 (abs_polyBlep_le_one (t := p + 1 / 2) (dt := dt) (by linarith) (by linarith))
    rw [(squareSample_of_lt_half h).1, abs_le]
    constructor <;> linarith
  · have hrise : 0 ≤ polyBlep realNum p dt := polyBlep_nonneg (by linarith)
    have hfall : polyBlep realNum (p - 1 / 2) dt ≤ 0 := polyBlep_nonpos (by linarith)
    have hopp := abs_le.1 (abs_polyBlep_le_one (t := p - 1 / 2) (dt := dt) (by linarith) (by linarith))
    rw [(squareSample_of_half_le h).1, abs_le]
    constructor <;> linarith

/-- R119: for every increment, since each of the two corrections is at most 1. -/
theorem abs_squareSample_le_three (h0 : 0 ≤ p) (h1 : p < 1) :
    |squareSample realNum .corrected p dt| ≤ 3 := by
  have hp := abs_le.1 (abs_polyBlep_le_one (dt := dt) h0 h1)
  rcases lt_or_ge p (1 / 2) with h | h
  · have hopp := abs_le.1 (abs_polyBlep_le_one (t := p + 1 / 2) (dt := dt) (by linarith) (by linarith))
    rw [(squareSample_of_lt_half h).1, abs_le]
    constructor <;> linarith
  · have hopp := abs_le.1 (abs_polyBlep_le_one (t := p - 1 / 2) (dt := dt) (by linarith) (by linarith))
    rw [(squareSample_of_half_le h).1, abs_le]
    constructor <;> linarith

/-- R119: with the literal signs each edge is doubled: at phase 0 and at phase 1/2 one correction is -1
and the other 0. -/
theorem squareSample_literal_edges (hpos : 0 < dt) (hdt : dt ≤ 1 / 4) :
    squareSample realNum .literal 0 dt = 2 ∧ squareSample realNum .literal (1 / 2) dt = -2 := by
  have hmid : polyBlep realNum (1 / 2) dt = 0 := polyBlep_of_le_of_le (by linarith) (by linarith)
  rw [(squareSample_of_lt_half (by norm_num)).2, (squareSample_of_half_le le_rfl).2, zero_add, sub_self,
    hmid, polyBlep_zero hpos]
  norm_num

end Oscillator

/-- Settles O56: the windows one by one; without an increment no phase is in one. -/
theorem polyBlepOverTheReals : Obligations.PolyBlepOverTheReals := by
  intro t dt h0 h1 hdt
  obtain ⟨hlo, hhi⟩ := abs_le.1 (abs_polyBlep_le_one (dt := dt) h0 h1)
  refine ⟨hlo, hhi, polyBlep_of_le_of_le, polyBlep_of_lt, polyBlep_of_one_sub_lt, ?_, polyBlep_zero,
    fun _ => polyBlep_mono_first h0, fun _ => polyBlep_mono_second⟩
  rintro rfl
  exact polyBlep_of_le_of_le h0 (by linarith)

/-- Settles O57: the saw and the square, each under its bound on the increment and without one. -/
theorem oscillatorRangeOverTheReals : Obligations.OscillatorRangeOverTheReals := fun _ _ h0 h1 _ =>
  ⟨abs_sawSample_le_one h0 h1,
    fun hdt => abs_squareSample_le_one h0 h1 (hdt.trans (by norm_num)), abs_sawSample_le_two h0 h1,
    abs_squareSample_le_three h0 h1, squareSample_literal_edges⟩

end Sys2Proof.Machine
end

section
/-! PROOFS. The constants that the rules of files 40 to 47 write, in binary32 (00_scope.md R8, R11), and when
equal values have equal bits. -/

namespace Sys2Proof

@[simp] theorem F32.ofNat_nine : F32.ofNat 9 = 0x41100000#32 := by decide +kernel
@[simp] theorem F32.ofNat_twenty : F32.ofNat 20 = 0x41A00000#32 := by decide +kernel
@[simp] theorem F32.ofNat_thousand : F32.ofNat 1000 = 0x447A0000#32 := by decide +kernel
@[simp] theorem F32.neg_one : F32.neg 0x3F800000#32 = 0xBF800000#32 := by decide
@[simp] theorem F32.neg_constTwoPi : F32.neg constTwoPi = 0xC0C90FDB#32 := by decide

/-- A value equal to one that is not zero has its bits. -/
theorem F32.eq_of_toInt_eq {a b : F32} (h : F32.toInt a = F32.toInt b) (h0 : F32.toInt b ≠ 0) : a = b := by
  rw [← F32.pack_sign_mag a, ← F32.pack_sign_mag b]
  unfold F32.toInt at h h0
  cases ha : F32.sign a <;> cases hb : F32.sign b <;>
    simp only [ha, hb, if_true, Bool.false_eq_true, if_false] at h h0
  · rw [F32.scaled_strictMono.injective (Int.ofNat_inj.1 h)]
  · omega
  · omega
  · rw [F32.scaled_strictMono.injective (Int.ofNat_inj.1 (neg_inj.1 h))]

end Sys2Proof
end

section
/-! PROOFS. The units in binary32 (files 40 to 47): the operations of R8 that each rule names, in its order,
and the phase that OSC advances (R111). -/

namespace Sys2Proof.Machine

/-! ### The hardware's number system -/

@[simp] theorem hardware_tanh (a : F32) : hardware.tanh a = F32.tanh Config.tanhSplit a := rfl
@[simp] theorem hardware_two : hardware.two = 0x40000000#32 := by decide +kernel

/-! ### clamp and the limiter (R11, R272) -/

/-- `clamp` (R11) between bounds that are not zero: at a bound the value has the bound's bits. -/
theorem hardware_clamp_eq {v lo hi : F32} (hv : F32.isNaN v = false) (hlt : F32.lt lo hi = true)
    (hlo0 : F32.toInt lo ≠ 0) (hhi0 : F32.toInt hi ≠ 0) :
    hardware.clamp v lo hi =
      if F32.lt v lo = true then lo else if F32.lt hi v = true then hi else v := by
  obtain ⟨hlo, hhi, hlohi⟩ := F32.lt_iff.1 hlt
  have hclamp : hardware.clamp v lo hi =
      if F32.toInt lo < F32.toInt v then (if F32.toInt v < F32.toInt hi then v else hi) else lo := by
    simp only [NumSys.clamp, NumSys.max, NumSys.min, hardware_lt]
    by_cases h : F32.toInt lo < F32.toInt v <;> simp [F32.lt_iff, hv, hlo, hhi, h, hlohi]
  simp only [hclamp, F32.lt_iff, hv, hlo, hhi, true_and]
  rcases lt_trichotomy (F32.toInt v) (F32.toInt lo) with h | h | h
  · rw [if_neg h.not_gt, if_pos h]
  · rw [if_neg h.not_gt, if_neg h.not_lt, if_neg (by omega), F32.eq_of_toInt_eq h hlo0]
  · rw [if_pos h, if_neg h.not_gt]
    rcases lt_trichotomy (F32.toInt v) (F32.toInt hi) with h' | h' | h'
    · rw [if_pos h', if_neg h'.not_gt]
    · rw [if_neg h'.not_lt, if_neg h'.not_gt, F32.eq_of_toInt_eq h' hhi0]
    · rw [if_neg h'.not_gt, if_pos h']

/-- R272: a NaN gives `+0.0`, anything else is clipped. -/
theorem mixLimit_hardware (s : F32) :
    mixLimit hardware s =
      if F32.isNaN s = true then 0x00000000#32
      else if F32.lt s 0xBF800000#32 = true then 0xBF800000#32
      else if F32.lt 0x3F800000#32 s = true then 0x3F800000#32
      else s := by
  simp only [mixLimit, hardware_isNaN, hardware_zero, hardware_neg, hardware_one, F32.neg_one]
  split
  · rfl
  · next h =>
    exact hardware_clamp_eq (Bool.eq_false_of_not_eq_true h) (by decide +kernel) (by decide +kernel)
      (by decide +kernel)

/-! ### The formulas -/

/-- R132: the sweep is raised to 20 at least, then cut at the bound. -/
theorem modulatedCutoff_hardware (t : Tuning F32) (cutoffHz em e : F32) :
    modulatedCutoff hardware t cutoffHz em e =
      let swept := F32.add cutoffHz (F32.mul (F32.mul em e) t.cutoffSweepHz)
      let above := if F32.lt 0x41A00000#32 swept = true then swept else 0x41A00000#32
      let bound := F32.mul (F32.div t.sr 0x40000000#32) 0x3EE66666#32
      if F32.lt above bound = true then above else bound := by
  simp only [modulatedCutoff, cutoffBound, NumSys.clamp, NumSys.max, NumSys.min, hardware_add,
    hardware_mul, hardware_div, hardware_lt, hardware_ofNat, hardware_lit, hardware_two, F32.ofNat_twenty,
    constCutoffRatio]

/-- Settles O28, unit by unit: OSC, VCF, its default scale law, SLD, ENV, DST, MIX and the sample. -/
theorem unitFormulasInBinary32 : Obligations.UnitFormulasInBinary32 := by
  refine ⟨fun t sign w phase f => ?osc, fun t law k input e y => ?vcf, fun p sr r c hlaw ht => ?law,
    fun t ms cur tgt => ?sld, fun t e d => ?env, fun d x => ?dst, fun c v k sn hh => rfl,
    fun c v d => ?mix⟩
  case osc =>
    cases w <;> cases sign <;>
      simp only [oscStep, phaseIncrement, advancePhase, oscSample, sawSample, squareSample, oppositePhase,
        polyBlep, hardware_add, hardware_sub, hardware_mul, hardware_div, hardware_neg, hardware_floor,
        hardware_lt, hardware_le, hardware_lit, hardware_zero, hardware_one, hardware_two, F32.neg_one,
        constHalf]
  case vcf =>
    simp only [filterStepWith, effectiveEnvMod, modulatedCutoff_hardware, stageCoef, feedbackAmount,
      filterInput, updateStages, onePole, guardStages, hardware_add, hardware_sub, hardware_mul,
      hardware_div, hardware_neg, hardware_exp, hardware_tanh, hardware_lit, hardware_zero, hardware_one,
      hardware_isFinite, F32.neg_constTwoPi, Bool.and_eq_true, and_assoc]
  case law =>
    simp only [buildFbScale, hlaw, fbScale, ht, defaultTuning, hardware_add, hardware_mul]
  case sld =>
    simp only [slideStep, snap, approach, glideCoef, msToSamples, hardware_add, hardware_sub, hardware_mul,
      hardware_div, hardware_neg, hardware_abs, hardware_exp, hardware_lt, hardware_one, hardware_ofNat,
      F32.ofNat_thousand, F32.neg_one]
  case env =>
    simp only [envelopeStep, floorEnvelope, guardEnvelope, hardware_mul, hardware_lt, hardware_zero,
      hardware_isFinite]
  case dst =>
    simp only [distort, shaped, drive, hardware_add, hardware_sub, hardware_mul, hardware_div,
      hardware_tanh, hardware_one, hardware_ofNat, F32.ofNat_nine]
  case mix =>
    simp only [mixOut, mixLimit_hardware, sanitizeDrums, sanitize, hardware_isFinite, hardware_zero]

/-! ### The advanced phase (R111) -/

/-- Settles O39: the increment is finite, and a finite sum less its floor is a fraction. -/
theorem phaseStaysInTheUnitInterval : Obligations.PhaseStaysInTheUnitInterval :=
  fun _ _ _ hphase hfin hnonneg hsr =>
    phaseOk_advancePhase hphase hsr hfin
      (by simpa using (F32.le_iff_toReal isFinite_zero hfin).1 hnonneg)

end Sys2Proof.Machine
end

section
/-! PROOFS. VCF over the reals (41_filter.md): the bounds of its cutoff and coefficients (R132 to R135), and
that every stage update is a convex combination, so that no stage ever leaves the input's bound plus the
greatest feedback (R140). -/

namespace Sys2Proof.Machine

/-! ### clamp (R11) and the constants -/

@[simp] theorem realNum_max (a b : ℝ) : realNum.max a b = max a b := by
  rw [max_comm, max_def_lt]
  simp [NumSys.max]

@[simp] theorem realNum_min (a b : ℝ) : realNum.min a b = min a b := by
  rw [min_def_lt]
  simp [NumSys.min]

@[simp] theorem realNum_clamp (v lo hi : ℝ) : realNum.clamp v lo hi = min (max v lo) hi := by
  simp [NumSys.clamp]

theorem toReal_constCutoffRatio : F32.toReal constCutoffRatio = 15099494 / 2 ^ 25 := by
  rw [F32.toReal_of_toInt (z := 15099494 * 2 ^ 124) (by decide +kernel)]
  norm_num

theorem toReal_constTwoPi : F32.toReal constTwoPi = 13176795 / 2 ^ 21 := by
  rw [F32.toReal_of_toInt (z := 13176795 * 2 ^ 128) (by decide +kernel)]
  norm_num

/-! ### The coefficients of a step (R132 to R134) -/

/-- R132: for an admitted rate the lower bound of the cutoff is below the upper one, so it holds. -/
theorem twenty_le_modulatedCutoff {t : Tuning ℝ} (hsr : 8000 ≤ t.sr) (cutoffHz em e : ℝ) :
    20 ≤ modulatedCutoff realNum t cutoffHz em e := by
  have hbound : 20 ≤ cutoffBound realNum t := by
    simp only [cutoffBound, realNum_mul, realNum_div, realNum_two, realNum_lit, toReal_constCutoffRatio]
    linarith
  rw [modulatedCutoff, realNum_clamp, realNum_ofNat]
  exact le_min (le_max_right _ _) hbound

/-- R133: `0 < g < 1`, since the exponent of a positive cutoff is negative. -/
theorem stageCoef_mem {t : Tuning ℝ} {c : ℝ} (hsr : 0 < t.sr) (hc : 0 < c) :
    0 < stageCoef realNum t c ∧ stageCoef realNum t c < 1 := by
  have htwoPi : 0 < F32.toReal constTwoPi := by
    rw [toReal_constTwoPi]
    norm_num
  have hneg : -F32.toReal constTwoPi * c / t.sr < 0 :=
    div_neg_of_neg_of_pos (mul_neg_of_neg_of_pos (neg_neg_of_pos htwoPi) hc) hsr
  simp only [stageCoef, realNum_sub, realNum_one, realNum_exp, realNum_div, realNum_mul, realNum_neg,
    realNum_lit]
  exact ⟨sub_pos.2 (Real.exp_lt_one_iff.2 hneg), sub_lt_self _ (Real.exp_pos _)⟩

/-- R134: `fb` runs from 0 to 4 under every law in `[0, 4]`. -/
theorem feedbackAmount_mem {law : ℝ → ℝ → ℝ} {r c : ℝ} (hr0 : 0 ≤ r) (hr1 : r ≤ 1)
    (hlaw : 0 ≤ law r c ∧ law r c ≤ 4) :
    0 ≤ feedbackAmount realNum law r c ∧ feedbackAmount realNum law r c ≤ 4 :=
  ⟨mul_nonneg hr0 hlaw.1, (mul_le_of_le_one_left hlaw.1 hr1).trans hlaw.2⟩

/-- The default law `1 + 3 * resonance` lies in `[1, 4]`. -/
theorem fbScale_mem {t : Tuning ℝ} {r : ℝ} (c : ℝ) (hbase : t.fbScaleBase = 1)
    (hslope : t.fbScaleSlope = 3) (hr0 : 0 ≤ r) (hr1 : r ≤ 1) :
    1 ≤ fbScale realNum t r c ∧ fbScale realNum t r c ≤ 4 := by
  simp only [fbScale, realNum_add, realNum_mul, hbase, hslope]
  constructor <;> linarith

/-! ### What one step does to the stages (R135 to R137) -/

/-- R135: by TANH-RANGE the feedback adds no more than `fb` to the input. -/
theorem abs_filterInput_le {fb input b : ℝ} (y3 : ℝ) (hfb : 0 ≤ fb ∧ fb ≤ 4) (hin : |input| ≤ b) :
    |filterInput realNum fb input y3| ≤ b + 4 := by
  have hfeed : |fb * Real.tanh y3| ≤ 4 := by
    rw [abs_mul, abs_of_nonneg hfb.1]
    exact (mul_le_of_le_one_right hfb.1 (Real.abs_tanh_lt_one y3).le).trans hfb.2
  exact (abs_sub _ _).trans (add_le_add hin hfeed)

/-- R136, R140: a stage takes a convex combination of its own value and the one it sees. -/
theorem abs_onePole_le {g u y B : ℝ} (hg0 : 0 ≤ g) (hg1 : g ≤ 1) (hu : |u| ≤ B) (hy : |y| ≤ B) :
    |onePole realNum g u y| ≤ B := by
  have hconvex : onePole realNum g u y = (1 - g) * y + g * u := by
    simp only [onePole, realNum_add, realNum_mul, realNum_sub]
    ring
  rw [hconvex, abs_le, ← Set.mem_Icc]
  exact convex_Icc (-B) B (abs_le.1 hy) (abs_le.1 hu) (sub_nonneg.2 hg1) hg0 (sub_add_cancel 1 g)

/-- The invariant of R140: all three stages within `B`. -/
def StagesWithin (B : ℝ) (y : FilterStages ℝ) : Prop := |y.y1| ≤ B ∧ |y.y2| ≤ B ∧ |y.y3| ≤ B

theorem stagesWithin_updateStages {g x B : ℝ} {y : FilterStages ℝ} (hg0 : 0 ≤ g) (hg1 : g ≤ 1)
    (hx : |x| ≤ B) (hy : StagesWithin B y) : StagesWithin B (updateStages realNum g x y) := by
  obtain ⟨h1, h2, h3⟩ := hy
  have h1' := abs_onePole_le hg0 hg1 hx h1
  have h2' := abs_onePole_le hg0 hg1 h1' h2
  exact ⟨h1', h2', abs_onePole_le hg0 hg1 h2' h3⟩

/-- Over the reals the defensive reset of R137 never fires. -/
@[simp] theorem guardStages_real (y : FilterStages ℝ) : guardStages realNum y = y := by
  simp [guardStages]

/-- R140, the step of its induction. -/
theorem stagesWithin_filterStepWith {t : Tuning ℝ} {law : ℝ → ℝ → ℝ} {k : FilterControls ℝ}
    {b input : ℝ} {y : FilterStages ℝ} (e : ℝ) (hsr : 8000 ≤ t.sr)
    (hlaw : ∀ r c, 0 ≤ r → r ≤ 1 → 0 ≤ law r c ∧ law r c ≤ 4) (hr0 : 0 ≤ k.resonance)
    (hr1 : k.resonance ≤ 1) (hin : |input| ≤ b) (hy : StagesWithin (b + 4) y) :
    StagesWithin (b + 4) (filterStepWith realNum t law k input e y) := by
  rw [filterStepWith, guardStages_real]
  have hc := twenty_le_modulatedCutoff hsr k.cutoffHz
    (effectiveEnvMod realNum t k.envMod k.accentLevel) e
  obtain ⟨hg0, hg1⟩ := stageCoef_mem (by linarith : 0 < t.sr) (by linarith)
  exact stagesWithin_updateStages hg0.le hg1.le
    (abs_filterInput_le _ (feedbackAmount_mem hr0 hr1 (hlaw _ _ hr0 hr1)) hin) hy

/-- Settles O58, by the invariant along the run and the range of the default law. -/
theorem filterIsBoundedOverTheReals : Obligations.FilterIsBoundedOverTheReals := by
  refine ⟨fun t law b run hsr hb hlaw hrun => ?run, fun t r c hbase hslope hr0 hr1 => ?law⟩
  case run =>
    have hzero : StagesWithin (b + 4) ⟨0, 0, 0⟩ := by
      have h : |(0 : ℝ)| ≤ b + 4 := by
        rw [abs_zero]
        linarith
      exact ⟨h, h, h⟩
    refine List.foldlRecOn run _ hzero fun y hy x hx => ?_
    obtain ⟨hr0, hr1, hin⟩ := hrun x hx
    exact stagesWithin_filterStepWith x.2.2 hsr hlaw hr0 hr1 hin hy
  case law =>
    obtain ⟨hlo, hhi⟩ := fbScale_mem c hbase hslope hr0 hr1
    exact ⟨zero_le_one.trans hlo, hhi⟩

end Sys2Proof.Machine
end

section
/-! PROOFS. The modulated cutoff in binary32 (41_filter.md R132): its upper bound for every admitted rate,
and the clamp between the two, which holds for a NaN too. -/

namespace Sys2Proof

/-- A numeral of at most 24 bits is a value. -/
theorem F32.representable_numeral {n : Nat} [n.AtLeastTwo] (h : n < 2 ^ 24) :
    F32.Representable (OfNat.ofNat n : ℝ) := F32.representable_natCast h

end Sys2Proof

namespace Sys2Proof.Machine

/-- R132: `0.225 SR` of an admitted rate, well above 20. -/
theorem cutoffBound_between {t : Tuning F32} (hsr : sampleRateAdmitted t.sr = true) :
    F32.Between 1799 43200 (cutoffBound hardware t) := by
  have hsr := sampleRateAdmitted_iff.1 hsr
  obtain ⟨htwo, htwo'⟩ := F32.toReal_ofNat (n := 2) (by norm_num)
  have hratio : F32.isFinite constCutoffRatio = true := by decide
  have hhalf : F32.Between 4000 96000 (F32.div t.sr (F32.ofNat 2)) := by
    refine (F32.roundsTo_div hsr.finite htwo (by rw [htwo']; norm_num)).between
      (F32.representable_numeral (by norm_num)) (F32.representable_numeral (by norm_num)) ?_ ?_ <;>
    · rw [htwo', Nat.cast_ofNat]
      linarith [hsr.lower, hsr.upper]
  refine (F32.roundsTo_mul hhalf.finite hratio).between
    (F32.representable_numeral (by norm_num)) (F32.representable_numeral (by norm_num)) ?_ ?_ <;>
  · rw [toReal_constCutoffRatio]
    linarith [hhalf.lower, hhalf.upper]

/-- Settles O42: a clamp keeps its bounds whatever it is given, and they are 20 and the bound above. -/
theorem cutoffStaysWithinItsBounds : Obligations.CutoffStaysWithinItsBounds := by
  refine ⟨fun sr cutoff em e hsr => ?_, by decide +kernel⟩
  have hbound := cutoffBound_between (t := defaultTuning sr) hsr
  obtain ⟨hfin, htwenty⟩ := F32.toReal_ofNat (n := 20) (by norm_num)
  have hle : F32.le (F32.ofNat 20) (cutoffBound hardware (defaultTuning sr)) = true := by
    rw [F32.le_iff_toReal hfin hbound.finite, htwenty, Nat.cast_ofNat]
    linarith [hbound.lower]
  obtain ⟨hlo, hhi⟩ := F32.clamp_bounds Config.expSplit Config.tanhSplit
    (v := F32.add cutoff (F32.mul (F32.mul em e) (defaultTuning sr).cutoffSweepHz))
    (F32.not_isNaN_of_isFinite hfin) hle
  exact ⟨F32.isFinite_of_le_of_le hfin hbound.finite hlo hhi, F32.ofNat_twenty ▸ hlo, hhi⟩

end Sys2Proof.Machine
end

section
/-! PROOFS. The envelope between triggers (42_envelope.md R157): its step does not raise the level, and a
`TICK` without a retriggered note gives that step the level and the coefficient it finds. -/

namespace Sys2Proof.Machine

/-- R157 (a): zero is not above the level, and the product with a coefficient of at most one is rounded to
a value not above it. -/
theorem envelopeStep_le (t : Tuning F32) {v c : F32} (hv : inUnit v = true) (hc : inUnit c = true) :
    F32.le (envelopeStep hardware t v c) v = true := by
  rw [inUnit_iff] at hv hc
  rw [F32.le_iff_toReal (isFinite_envelopeStep t v c) hv.finite]
  rcases envelopeStep_cases t v c with h | ⟨-, h⟩ <;> rw [h]
  · rw [F32.toReal_zero]
    exact hv.lower
  · exact ((F32.roundsTo_mul hv.finite hc.finite).between F32.representable_zero
      (F32.representable_toReal hv.finite) (mul_nonneg hv.lower hc.lower)
      (mul_le_of_le_one_right hv.lower hc.upper)).upper

section Registers

variable {α : Type} (N : NumSys α)

/-- A rendered sample steps the envelope and keeps the two latched registers (R198). -/
theorem renderVoice_envelope (p : Params α) (c : ConfigRegs α) (v : VoiceRegs α) :
    (renderVoice N p c v).2.envValue = envelopeStep N p.tuning v.envValue v.decayCoef ∧
      (renderVoice N p c v).2.decayCoef = v.decayCoef ∧
      (renderVoice N p c v).2.accentLevel = v.accentLevel := by
  simp [renderVoice_snd]

/-- A note that glides leaves the envelope and the accent as they are (R166). -/
theorem playNote_envelope_of_glides {p : Params α} {sl : Bool} {v : VoiceRegs α}
    (hg : glides N p.tuning sl v.envValue = true) (c : ConfigRegs α) (m : BitVec 7) (a : Bool) :
    (playNote N p c m a sl v).envValue = v.envValue ∧
      (playNote N p c m a sl v).decayCoef = v.decayCoef ∧
      (playNote N p c m a sl v).accentLevel = v.accentLevel := by
  rcases playNote_cases N p c m a sl v with ⟨-, h⟩ | ⟨hn, -⟩
  · rw [h]
    exact ⟨rfl, rfl, rfl⟩
  · rw [hg] at hn
    cases hn

/-- The sequencer's half of `TICK` leaves the envelope and the accent as they are unless it retriggers: no
event, an inactive step and a glide do not (R248, R166). -/
theorem sequence_envelope_of_no_trigger (e : EngineState α)
    (h : ∀ k, (seqTick N e.params e.cr.tempoBpm e.seq).1 = some k → (e.readSynthStep k).active = false ∨
      glides N e.params.tuning (e.readSynthStep k).slide e.voice.envValue = true) :
    (sequence N e).2.voice.envValue = e.voice.envValue ∧
      (sequence N e).2.voice.decayCoef = e.voice.decayCoef ∧
      (sequence N e).2.voice.accentLevel = e.voice.accentLevel := by
  cases hk : (seqTick N e.params e.cr.tempoBpm e.seq).1 with
  | none =>
    rw [sequence_of_none N e hk]
    exact ⟨rfl, rfl, rfl⟩
  | some k =>
    rw [sequence_voice_of_some N e hk]
    rcases h k hk with hinactive | hglides
    · simp [hinactive]
    · split
      · exact playNote_envelope_of_glides N hglides _ _ _
      · exact ⟨rfl, rfl, rfl⟩

end Registers

/-- Settles O38: such a `TICK` is one envelope step, from the level and the coefficient before it. -/
theorem envelopeFallsBetweenTriggers : Obligations.EnvelopeFallsBetweenTriggers := by
  refine ⟨fun t v c hv hc => ⟨envelopeStep_le t hv hc, inUnit_envelopeStep t hv hc⟩,
    fun s hv hc hquiet => ⟨_, exec_tick s, ?_⟩⟩
  obtain ⟨henv, hcoef, haccent⟩ := sequence_envelope_of_no_trigger hardware s.toEngineState fun k hk =>
    (hquiet k hk).imp_right fun ⟨hslide, hlt⟩ => by rw [glides, hslide, hardware_lt, hlt]; rfl
  obtain ⟨henv', hcoef', haccent'⟩ :=
    renderVoice_envelope hardware s.params s.cr (sequence hardware s.toEngineState).2.voice
  rw [henv, hcoef] at henv'
  simp only [State.sampleDone_toEngineState, State.onEngine_toEngineState, tickWith_voice, henv', hcoef',
    haccent', hcoef, haccent, and_true]
  exact ⟨envelopeStep_le _ hv hc, inUnit_envelopeStep _ hv hc⟩

/-- The voice at the top of its envelope, at the first step event after `START`, whose step glides. -/
def glidingState : State :=
  let s := afterCommand .start (afterCommand (.setSynthStep 0#8 45#8 false true true) State.reset)
  { s with voice := { s.voice with envValue := 0x3F800000#32, decayCoef := 0x3F000000#32 } }

/-- The premises of O38 are met on one state by an active step that glides. -/
theorem glidingState_meets_premises :
    inUnit glidingState.voice.envValue = true ∧ inUnit glidingState.voice.decayCoef = true ∧
      stepEvent .tick glidingState = some 0#4 ∧ (glidingState.readSynthStep 0#4).active = true ∧
      (glidingState.readSynthStep 0#4).slide = true ∧
      F32.lt glidingState.params.tuning.slideThreshold glidingState.voice.envValue = true := by
  decide +kernel

/-- So that `TICK` glides and the envelope falls from where it is. -/
theorem glidingState_tick : ∃ t, exec .tick glidingState = .next t ∧
    F32.le t.voice.envValue 0x3F800000#32 = true ∧ t.voice.decayCoef = 0x3F000000#32 := by
  obtain ⟨hv, hc, hevent, -, hslide, hlt⟩ := glidingState_meets_premises
  obtain ⟨t, hexec, hle, -, hcoef, -⟩ := envelopeFallsBetweenTriggers.2 glidingState hv hc fun k hk => by
    rw [hevent] at hk
    exact Option.some.inj hk ▸ .inr ⟨hslide, hlt⟩
  exact ⟨t, hexec, hle, hcoef⟩

end Sys2Proof.Machine
end

section
/-! PROOFS. The glide in binary32 (43_slide.md): the size of its coefficient for every EXP that R9 admits
(R167), and that a step moves towards the target and not past it (R173 b). -/

namespace Sys2Proof

/-! ### Neighbouring values (R7) -/

/-- No value lies strictly between a magnitude and the next one. -/
theorem F32.le_or_succ_le (c : F32) {m : Nat} (hm : m < F32.infMag) :
    F32.toReal c ≤ F32.toReal (F32.pack false m) ∨ F32.toReal (F32.pack false (m + 1)) ≤ F32.toReal c := by
  rw [F32.toReal_pack_false hm.le, F32.toReal_pack_false hm]
  by_cases hpos : 0 ≤ F32.toReal c
  · rw [← abs_of_nonneg hpos, F32.abs_toReal, div_le_div_iff_of_pos_right (by positivity),
      div_le_div_iff_of_pos_right (by positivity), Nat.cast_le, Nat.cast_le, F32.scaled_le_scaled,
      F32.scaled_le_scaled]
    exact Nat.lt_or_ge (F32.mag c) (m + 1) |>.imp_left Nat.le_of_lt_succ
  · exact .inl ((not_le.1 hpos).le.trans (by positivity))

theorem F32.representable_div_two_pow {q e : Nat} (hq : q < 2 ^ 24) (he : e ≤ 149) :
    F32.Representable (q / 2 ^ e) := by
  have hlt : q * 2 ^ (149 - e) < F32.scaled F32.infMag := by
    rw [F32.scaled_infMag]
    exact Nat.mul_lt_mul_of_lt_of_le hq (Nat.pow_le_pow_right (by norm_num) (by omega)) (by positivity)
  have h := F32.representable_units hq hlt
  rwa [Nat.cast_mul, cast_two_pow, ← Nat.sub_add_cancel he, pow_add, mul_comm (2 ^ (149 - e) : ℝ),
    Nat.add_sub_cancel, mul_div_mul_right _ _ (by positivity)] at h

/-! ### EXP between representable bounds (R9) -/

/-- EXP, being faithful, does not cross a representable number that lies strictly on one side of the real
exponential. -/
theorem F32.exp_between_of_lt (split : F32 → Split) {v : F32} {a b : ℝ} (hfin : F32.isFinite v = true)
    (hv : F32.toReal v < 0) (ha : F32.Representable a) (hb : F32.Representable b)
    (hlo : a < Real.exp (F32.toReal v)) (hhi : Real.exp (F32.toReal v) < b) :
    F32.Between a b (F32.exp split v) := by
  have hlt : F32.lt v 0x00000000#32 = true :=
    (F32.lt_iff_toReal hfin (by decide)).2 (by rwa [F32.toReal_zero])
  obtain ⟨m, hm, hdown, hup, hexp⟩ := F32.exp_faithful split hfin hlt
  have hinf : m + 1 < F32.infMag := hm.trans_lt F32.oneMag_lt_infMag
  have hfinite : ∀ n ≤ m + 1, F32.isFinite (F32.pack false n) = true := fun n hn => by
    rw [F32.isFinite_iff, F32.mag_pack _ (F32.lt_two_pow_of_le_infMag (by omega))]
    omega
  obtain ⟨lo, -, rfl⟩ := ha
  obtain ⟨hi, -, rfl⟩ := hb
  have hlo' := (F32.le_or_succ_le lo (m := m) (by omega)).resolve_right (by linarith)
  have hhi' := (F32.le_or_succ_le hi (m := m) (by omega)).resolve_left (by linarith)
  rcases hexp with h | h <;> rw [h]
  · exact ⟨hfinite m (by omega), hlo', by linarith⟩
  · exact ⟨hfinite (m + 1) le_rfl, by linarith, hhi'⟩

end Sys2Proof

namespace Sys2Proof.Machine

/-! ### The coefficient (R167) -/

/-- The legal slide times (R38) as real bounds. -/
theorem slideTime_between {ms : F32} (hlo : F32.le 0x41200000#32 ms = true)
    (hhi : F32.le ms 0x43480000#32 = true) : F32.Between 10 200 ms := by
  have h := (F32.between_iff (by decide) (by decide)).2 ⟨hlo, hhi⟩
  rw [F32.toReal_of_toInt (z := 10 * 2 ^ 149) (by decide +kernel),
    F32.toReal_of_toInt (z := 200 * 2 ^ 149) (by decide +kernel)] at h
  exact h.mono (by norm_num) (by norm_num)

/-- The exponent of the coefficient: 80 to 38400 samples give `-1/80` to `-1/38400`, widened to
representable bounds. -/
theorem glideExponent_between {t : Tuning F32} {ms : F32} (hsr : sampleRateAdmitted t.sr = true)
    (hms : F32.Between 10 200 ms) :
    F32.Between (-(3277 / 2 ^ 18)) (-(1 / 2 ^ 16))
      (F32.div (F32.neg 0x3F800000#32) (msToSamples hardware t ms)) := by
  have hn := msToSamples_between (lo := 10) (hi := 200) (by norm_num) (by norm_num) hsr
    (hms.mono (by norm_num) (by norm_num))
  have hlo : 80 ≤ F32.toReal (msToSamples hardware t ms) := le_trans (by norm_num) hn.lower
  have hhi : F32.toReal (msToSamples hardware t ms) ≤ 38400 := hn.upper.trans (by norm_num)
  have hpos : 0 < F32.toReal (msToSamples hardware t ms) := by linarith
  have hrlo : F32.Representable (3277 / 2 ^ 18) := by
    simpa using F32.representable_div_two_pow (q := 3277) (e := 18)
  have hrhi : F32.Representable (1 / 2 ^ 16) := by
    simpa using F32.representable_div_two_pow (q := 1) (e := 16)
  refine (F32.roundsTo_div (by decide) hn.finite hpos.ne').between hrlo.neg hrhi.neg ?_ ?_ <;>
    rw [F32.toReal_neg, F32.toReal_one]
  · rw [le_div_iff₀ hpos]
    linarith
  · rw [div_le_iff₀ hpos]
    linarith

/-- The exponential of such an exponent, by `(1 - y / 2) ^ 2 ≤ exp (-y) ≤ 1 / (1 + y)`. -/
theorem exp_glideExponent_bounds {x : ℝ} (hlo : -(3277 / 2 ^ 18) ≤ x) (hhi : x ≤ -(1 / 2 ^ 16)) :
    32359 / 2 ^ 15 < Real.exp x ∧ Real.exp x < 131071 / 2 ^ 17 := by
  constructor
  · have h := Real.one_sub_div_pow_le_exp_neg (n := 2) (t := 3277 / 2 ^ 18) (by norm_num)
    calc (32359 / 2 ^ 15 : ℝ) < (1 - 3277 / 2 ^ 18 / (2 : ℕ)) ^ 2 := by norm_num
      _ ≤ Real.exp (-(3277 / 2 ^ 18)) := h
      _ ≤ Real.exp x := Real.exp_le_exp.2 hlo
  · have h := Real.add_one_le_exp (1 / 2 ^ 16 : ℝ)
    calc Real.exp x ≤ Real.exp (-(1 / 2 ^ 16)) := Real.exp_le_exp.2 hhi
      _ = (Real.exp (1 / 2 ^ 16))⁻¹ := Real.exp_neg _
      _ ≤ (1 / 2 ^ 16 + 1)⁻¹ := inv_anti₀ (by positivity) h
      _ < 131071 / 2 ^ 17 := by norm_num

/-- R167: the distances from 1 of the two bounds on EXP are representable, so the subtraction keeps them
whatever EXP is between. -/
theorem glideCoef_small {t : Tuning F32} {ms : F32} (hsr : sampleRateAdmitted t.sr = true)
    (hms : F32.Between 10 200 ms) :
    F32.Between (1 / 2 ^ 17) (409 / 2 ^ 15) (glideCoef hardware t ms) := by
  have hv := glideExponent_between hsr hms
  obtain ⟨hlo, hhi⟩ := exp_glideExponent_bounds hv.lower hv.upper
  have hneg := hv.upper.trans_lt (neg_neg_of_pos (by positivity))
  have he := F32.exp_between_of_lt Config.expSplit hv.finite hneg
    (by simpa using F32.representable_div_two_pow (q := 32359) (e := 15))
    (by simpa using F32.representable_div_two_pow (q := 131071) (e := 17)) hlo hhi
  refine (F32.roundsTo_sub isFinite_one he.finite).between
    (by simpa using F32.representable_div_two_pow (q := 1) (e := 17))
    (by simpa using F32.representable_div_two_pow (q := 409) (e := 15)) ?_ ?_ <;> rw [F32.toReal_one]
  · linarith [he.upper]
  · linarith [he.lower]

/-- Settles O40: the coefficient lies between `2^-17` and `409/2^15`, which is below 0.0125. -/
theorem glideCoefficientIsSmall : Obligations.GlideCoefficientIsSmall := by
  intro sr ms hsr hlo hhi k
  obtain ⟨hfin, hpos, hmax⟩ := glideCoef_small (t := defaultTuning sr) hsr (slideTime_between hlo hhi)
  exact ⟨hfin, lt_of_lt_of_le (by positivity) hpos, hmax.trans_lt (by norm_num)⟩

/-! ### The step (R173) -/

/-- Two frequencies in the note range are less than the overflow threshold apart. -/
theorem abs_sub_le_of_inNoteRange {f g : F32} (hf : inNoteRange f = true) (hg : inNoteRange g = true) :
    |F32.toReal f - F32.toReal g| ≤ 2 ^ 126 := by
  obtain ⟨hlo, hhi⟩ := toReal_noteBounds
  obtain ⟨-, hfl, hfu⟩ := inNoteRange_iff.1 hf
  obtain ⟨-, hgl, hgu⟩ := inNoteRange_iff.1 hg
  rw [hlo] at hfl hgl
  rw [hhi] at hfu hgu
  exact abs_le.2 ⟨by linarith, by linarith⟩

/-- Settles O41: the step lies between the lesser and the greater of its ends, and the premise of each
clause says which is which. -/
theorem glideStaysBetweenItsEnds : Obligations.GlideStaysBetweenItsEnds := by
  intro sr ms cur tgt hsr hlo hhi hcur htgt f
  have hc := (inNoteRange_iff.1 hcur).finite
  have ht := (inNoteRange_iff.1 htgt).finite
  have hf := slideStep_between (t := defaultTuning sr) hsr (slideTime_between hlo hhi) hc ht
    (abs_sub_le_of_inNoteRange htgt hcur)
  constructor <;> intro hle
  · have h := (F32.le_iff_toReal hc ht).1 hle
    rw [min_eq_left h, max_eq_right h] at hf
    exact (F32.between_iff hc ht).1 hf
  · have h := (F32.le_iff_toReal ht hc).1 hle
    rw [min_eq_right h, max_eq_left h] at hf
    exact (F32.between_iff ht hc).1 hf

end Sys2Proof.Machine
end

section
/-! PROOFS. A note that does not ask for a glide (43_slide.md R166), the decay it starts read over the reals
(42_envelope.md R157), and the glide read over the reals (R173). -/

namespace Sys2Proof.Machine

/-! ### Notes without a glide (R166) -/

/-- Without the slide bit a note jumps to its frequency and triggers the envelope. -/
theorem playNote_of_not_slide {α : Type} (N : NumSys α) (p : Params α) (c : ConfigRegs α) (m : BitVec 7)
    (a : Bool) (v : VoiceRegs α) :
    (playNote N p c m a false v).freqCurrent = noteHz p m ∧
      (playNote N p c m a false v).envValue = N.one ∧
      (playNote N p c m a false v).decayCoef = triggerCoef N p.tuning c.decayMs a := by
  rcases playNote_cases N p c m a false v with ⟨h, -⟩ | ⟨-, h⟩
  · exact absurd h Bool.false_ne_true
  · rw [h]
    exact ⟨rfl, rfl, rfl⟩

/-! ### The glide (R168, R173) -/

theorem approach_real (k f target : ℝ) : approach realNum k f target = f + (target - f) * k := rfl

/-- R173 (a): each step of the approach leaves the part `1 - k` of the distance. -/
theorem distance_iterate_approach (k start target : ℝ) (j : Nat) :
    target - (fun f => approach realNum k f target)^[j] start = (target - start) * (1 - k) ^ j := by
  induction j with
  | zero => simp
  | succ j ih =>
    rw [Function.iterate_succ_apply', approach_real, pow_succ, ← mul_assoc, ← ih]
    ring

/-! ### The envelope (R151, R153, R157) -/

theorem triggerCoef_real (t : Tuning ℝ) (decayMs : ℝ) (accent : Bool) :
    triggerCoef realNum t decayMs accent =
      Real.exp (-1 / ((if accent = true then decayMs * t.accentDecayScale else decayMs) * t.sr / 1000)) := by
  simp [triggerCoef, msToSamples, triggerMs]

/-- A step that does not fall below the floor is the product. -/
theorem envelopeStep_real {t : Tuning ℝ} {v c : ℝ} (h : t.envFloor ≤ v * c) :
    envelopeStep realNum t v c = v * c := by
  simp [envelopeStep, guardEnvelope, floorEnvelope, h]

/-- R157 (d): renders multiply the level by the coefficient, each of them above the floor because the last
one is. -/
theorem iterate_renderVoice_envelope {p : Params ℝ} {v : VoiceRegs ℝ} {d : ℝ} (c : ConfigRegs ℝ)
    (hd : 0 < d) (hv : v.envValue = 1) (hcoef : v.decayCoef = Real.exp (-1 / d)) (k : Nat)
    (hfloor : p.tuning.envFloor ≤ Real.exp (-(k : ℝ) / d)) :
    ((fun v => (renderVoice realNum p c v).2)^[k] v).envValue = Real.exp (-(k : ℝ) / d) ∧
      ((fun v => (renderVoice realNum p c v).2)^[k] v).decayCoef = Real.exp (-1 / d) := by
  induction k with
  | zero => simp [hv, hcoef]
  | succ k ih =>
    have hstep : Real.exp (-(k : ℝ) / d) * Real.exp (-1 / d) = Real.exp (-((k + 1 : Nat) : ℝ) / d) := by
      rw [← Real.exp_add, ← add_div, Nat.cast_succ, neg_add]
    have hfall : Real.exp (-((k + 1 : Nat) : ℝ) / d) ≤ Real.exp (-(k : ℝ) / d) :=
      Real.exp_le_exp.2 ((div_le_div_iff_of_pos_right hd).2 (neg_le_neg (Nat.cast_le.2 k.le_succ)))
    obtain ⟨henv, hdecay⟩ := ih (hfloor.trans hfall)
    rw [Function.iterate_succ_apply']
    obtain ⟨henv', hdecay', -⟩ :=
      renderVoice_envelope realNum p c ((fun v => (renderVoice realNum p c v).2)^[k] v)
    rw [henv', hdecay', henv, hdecay, envelopeStep_real (hstep ▸ hfloor), hstep]
    exact ⟨rfl, rfl⟩

/-- Settles O59: by induction on the number of steps and on the number of renders after the trigger. -/
theorem glideAndEnvelopeAreExponentialOverTheReals :
    Obligations.GlideAndEnvelopeAreExponentialOverTheReals := by
  refine ⟨distance_iterate_approach, fun p c v m accent k => ?_⟩
  intro ms decaySamples hpos hfloor
  obtain ⟨-, henv, hcoef⟩ := playNote_of_not_slide realNum p c m accent v
  exact (iterate_renderVoice_envelope c hpos (henv.trans realNum_one)
    (hcoef.trans (triggerCoef_real p.tuning c.decayMs accent)) k hfloor).1

end Sys2Proof.Machine
end

section
/-! PROOFS. The note ROM (43_slide.md R171, R172). The twelfth power of the formula is rational, so that a
ROM word is the nearest value is a comparison of whole numbers at its two midpoints. -/

namespace Sys2Proof

/-- A value whose midpoints with its two neighbours enclose a number is the value nearest to it (the
midpoints doubled, in units of `2^-149`). -/
theorem F32.nearest_of_midpoints {m : Nat} (hm : m + 1 < F32.infMag) {r : ℝ}
    (hlo : ((F32.scaled m + F32.scaled (m + 1) : Nat) : ℝ) ≤ r * 2 ^ 150)
    (hhi : r * 2 ^ 150 ≤ (F32.scaled (m + 1) + F32.scaled (m + 2) : Nat)) (x : F32) :
    |F32.toReal (F32.pack false (m + 1)) - r| ≤ |F32.toReal x - r| := by
  have hdown := F32.toReal_pack_false (m := m) (by omega)
  have hmid := F32.toReal_pack_false (m := m + 1) (by omega)
  have hup := F32.toReal_pack_false (m := m + 2) (by omega)
  have hhalf : r * 2 ^ 150 = 2 * r * 2 ^ 149 := by ring
  rw [Nat.cast_add, hhalf, ← div_le_iff₀ (by positivity), add_div, ← hdown, ← hmid] at hlo
  rw [Nat.cast_add, hhalf, ← le_div_iff₀ (by positivity), add_div, ← hmid, ← hup] at hhi
  have hmono : F32.toReal (F32.pack false m) ≤ F32.toReal (F32.pack false (m + 1)) := by
    rw [hdown, hmid, div_le_div_iff_of_pos_right (by positivity), Nat.cast_le]
    exact (F32.scaled_lt_succ m).le
  rcases F32.le_or_succ_le x (m := m) (by omega) with hbelow | hge
  · calc |F32.toReal (F32.pack false (m + 1)) - r| ≤ r - F32.toReal x :=
          abs_le.2 ⟨by linarith, by linarith⟩
      _ ≤ |F32.toReal x - r| := by rw [abs_sub_comm]; exact le_abs_self _
  · rcases F32.le_or_succ_le x hm with hle | habove
    · rw [le_antisymm hle hge]
    · calc |F32.toReal (F32.pack false (m + 1)) - r| ≤ F32.toReal x - r :=
            abs_le.2 ⟨by linarith, by linarith⟩
        _ ≤ |F32.toReal x - r| := le_abs_self _

end Sys2Proof

namespace Sys2Proof.Machine

/-! ### The formula (R171) -/

/-- The frequency of note `m`, `440 * 2^((m - 69) / 12)`. -/
noncomputable def noteFormula (m : Nat) : ℝ := 440 * (2 : ℝ) ^ (((m : ℝ) - 69) / 12)

theorem noteFormula_pos (m : Nat) : 0 < noteFormula m := by
  unfold noteFormula
  positivity

theorem noteFormula_pow (m : Nat) : noteFormula m ^ 12 * 2 ^ 69 = 440 ^ 12 * 2 ^ m := by
  rw [noteFormula, mul_pow, ← Real.rpow_natCast ((2 : ℝ) ^ _), ← Real.rpow_mul (by norm_num), mul_assoc,
    Nat.cast_ofNat, div_mul_cancel₀ _ (by norm_num), ← Real.rpow_natCast (2 : ℝ) 69,
    ← Real.rpow_add (by norm_num), Nat.cast_ofNat, sub_add_cancel, Real.rpow_natCast]

/-- The same in units of `2^-150`, in which the midpoints of values are whole numbers. -/
theorem noteFormula_units_pow (m : Nat) :
    (noteFormula m * 2 ^ 150) ^ 12 * 2 ^ 69 = 440 ^ 12 * 2 ^ (m + 1800) := by
  rw [mul_pow, mul_right_comm, noteFormula_pow, ← pow_mul, mul_assoc, ← pow_add]

theorem le_noteFormula_iff (m n : Nat) :
    (n : ℝ) ≤ noteFormula m * 2 ^ 150 ↔ n ^ 12 * 2 ^ 69 ≤ 440 ^ 12 * 2 ^ (m + 1800) := by
  have hpos := noteFormula_pos m
  rw [← pow_le_pow_iff_left₀ n.cast_nonneg (by positivity) (by norm_num : 12 ≠ 0),
    ← mul_le_mul_iff_left₀ (by positivity : (0 : ℝ) < 2 ^ 69), noteFormula_units_pow]
  exact_mod_cast Iff.rfl

theorem noteFormula_le_iff (m n : Nat) :
    noteFormula m * 2 ^ 150 ≤ n ↔ 440 ^ 12 * 2 ^ (m + 1800) ≤ n ^ 12 * 2 ^ 69 := by
  have hpos := noteFormula_pos m
  rw [← pow_le_pow_iff_left₀ (by positivity) n.cast_nonneg (by norm_num : 12 ≠ 0),
    ← mul_le_mul_iff_left₀ (by positivity : (0 : ℝ) < 2 ^ 69), noteFormula_units_pow]
  exact_mod_cast Iff.rfl

/-! ### The table (R172) -/

/-- The magnitude below that of `NOTE_HZ[m]`. -/
def noteMagPred (m : Fin 128) : Nat := F32.mag noteHzTable[m] - 1

theorem noteHzTable_eq_pack (m : Fin 128) :
    noteHzTable[m] = F32.pack false (noteMagPred m + 1) ∧ noteMagPred m + 1 < F32.infMag := by
  revert m
  decide +kernel

/-- The twelfth powers of each entry's two midpoints, against that of the formula. -/
theorem noteHzTable_midpoints (m : Fin 128) :
    (F32.scaled (noteMagPred m) + F32.scaled (noteMagPred m + 1)) ^ 12 * 2 ^ 69 ≤
        440 ^ 12 * 2 ^ (m.val + 1800) ∧
      440 ^ 12 * 2 ^ (m.val + 1800) ≤
        (F32.scaled (noteMagPred m + 1) + F32.scaled (noteMagPred m + 2)) ^ 12 * 2 ^ 69 := by
  revert m
  decide +kernel

/-- R172: no value is nearer to the formula than the ROM word. -/
theorem noteHzTable_nearest (m : Fin 128) (x : F32) :
    |F32.toReal noteHzTable[m] - noteFormula m| ≤ |F32.toReal x - noteFormula m| := by
  obtain ⟨hpack, hfin⟩ := noteHzTable_eq_pack m
  obtain ⟨hlo, hhi⟩ := noteHzTable_midpoints m
  rw [hpack]
  exact F32.nearest_of_midpoints hfin ((le_noteFormula_iff m _).2 hlo) ((noteFormula_le_iff m _).2 hhi) x

/-- R171: each step of 12 doubles the frequency, and the doubled word is in the table. -/
theorem two_mul_noteHzTable (m : Fin 116) :
    F32.mul 0x40000000#32 noteHzTable[m.val] = noteHzTable[m.val + 12] := by
  revert m
  decide +kernel

/-- R166: a note without the slide bit sets the current frequency to its ROM word, in every state. -/
theorem freqCurrent_afterCommand_noteOn (midi : BitVec 8) (accent : Bool) (s : State) :
    (afterCommand (.noteOn midi accent false) s).voice.freqCurrent = noteHz s.params (clampNote midi) :=
  (playNote_of_not_slide hardware s.params s.cr (clampNote midi) accent s.voice).1

theorem toNat_clampNote (midi : BitVec 8) : (clampNote midi).toNat = min midi.toNat 127 := by
  rw [clampNote, BitVec.toNat_ofNat]
  omega

/-- Settles O49: each ROM word lies between its midpoints, which is decided on twelfth powers. -/
theorem noteTableIsNearestToTheFormula : Obligations.NoteTableIsNearestToTheFormula := by
  refine ⟨fun m x _ => noteHzTable_nearest m x, by decide +kernel, two_mul_noteHzTable,
    fun midi accent => ?_⟩
  rw [freqCurrent_afterCommand_noteOn, noteHz]
  simp only [toNat_clampNote]
  rfl

end Sys2Proof.Machine
end

section
/-! PROOFS. The signs of the operations of R8 on finite values, the operands that they leave as they are, and
the bounds of TANH (R10) as real numbers. -/

namespace Sys2Proof

/-! ### The operations on finite values -/

theorem F32.mul_of_isFinite {a b : F32} (ha : F32.isFinite a = true) (hb : F32.isFinite b = true) :
    F32.mul a b = F32.pack (F32.sign a != F32.sign b)
      (F32.roundNearest (F32.scaled (F32.mag a) * F32.scaled (F32.mag b)) (2 ^ 149)) := by
  simp [F32.mul, F32.not_isNaN_of_isFinite, F32.isInf_eq_false_of_isFinite, ha, hb]

theorem F32.div_of_isFinite {a b : F32} (ha : F32.isFinite a = true) (hb : F32.isFinite b = true)
    (hb0 : F32.mag b ≠ 0) :
    F32.div a b = F32.pack (F32.sign a != F32.sign b)
      (F32.roundNearest (F32.scaled (F32.mag a) * 2 ^ 149) (F32.scaled (F32.mag b))) := by
  simp [F32.div, F32.not_isNaN_of_isFinite, F32.isInf_eq_false_of_isFinite, ha, hb, hb0]

theorem F32.add_of_isFinite {a b : F32} (ha : F32.isFinite a = true) (hb : F32.isFinite b = true) :
    F32.add a b = F32.roundSum (F32.sign a && F32.sign b) (F32.toInt a + F32.toInt b) := by
  simp [F32.add, F32.not_isNaN_of_isFinite, F32.isInf_eq_false_of_isFinite, ha, hb]

/-! ### Signs -/

theorem F32.roundNearest_lt (num den : Nat) : F32.roundNearest num den < 2 ^ 31 :=
  F32.lt_two_pow_of_le_infMag (F32.roundNearest_le num den)

theorem F32.toInt_neg (a : F32) : F32.toInt (F32.neg a) = -F32.toInt a := by
  rw [F32.toInt, F32.toInt, F32.sign_neg, F32.mag_neg]
  cases F32.sign a <;> simp

theorem F32.sign_mul {a b : F32} (ha : F32.isFinite a = true) (hb : F32.isFinite b = true) :
    F32.sign (F32.mul a b) = (F32.sign a != F32.sign b) := by
  rw [F32.mul_of_isFinite ha hb, F32.sign_pack _ (F32.roundNearest_lt _ _)]

theorem F32.isNaN_mul {a b : F32} (ha : F32.isFinite a = true) (hb : F32.isFinite b = true) :
    F32.isNaN (F32.mul a b) = false := by
  rw [F32.mul_of_isFinite ha hb, F32.isNaN_pack _ (F32.roundNearest_le _ _)]

theorem F32.sign_div {a b : F32} (ha : F32.isFinite a = true) (hb : F32.isFinite b = true)
    (hb0 : F32.mag b ≠ 0) : F32.sign (F32.div a b) = (F32.sign a != F32.sign b) := by
  rw [F32.div_of_isFinite ha hb hb0, F32.sign_pack _ (F32.roundNearest_lt _ _)]

theorem F32.sign_tanh (split : F32 → Split) {v : F32} (h : F32.isNaN v = false) :
    F32.sign (F32.tanh split v) = F32.sign v := by
  rw [F32.tanh_eq_pack split h, F32.sign_pack _ ((F32.tanhMag_le_one split _).trans_lt F32.oneMag_lt)]

/-- A sum that is not negative has no sign bit, unless both operands have it. -/
theorem F32.sign_add_of_nonneg {a b : F32} (ha : F32.isFinite a = true) (hb : F32.isFinite b = true)
    (hs : F32.sign a = false) (h : 0 ≤ F32.toReal a + F32.toReal b) : F32.sign (F32.add a b) = false := by
  have hint : 0 ≤ F32.toInt a + F32.toInt b := by
    rw [F32.toReal, F32.toReal, ← add_div, le_div_iff₀ (by positivity), zero_mul] at h
    exact_mod_cast h
  rw [F32.add_of_isFinite ha hb, F32.roundSum, hs, Bool.false_and]
  split
  · exact F32.sign_pack _ (by norm_num)
  · rw [F32.sign_pack _ (F32.roundNearest_lt _ _)]
    exact decide_eq_false hint.not_gt

theorem F32.neg_mul {a b : F32} (ha : F32.isFinite a = true) (hb : F32.isFinite b = true) :
    F32.mul (F32.neg a) b = F32.neg (F32.mul a b) := by
  rw [F32.mul_of_isFinite ha hb, F32.mul_of_isFinite (by rwa [F32.isFinite_neg]) hb, F32.sign_neg,
    F32.mag_neg, F32.neg_pack _ (F32.roundNearest_lt _ _), Bool.not_bne]

theorem F32.mul_neg {a b : F32} (ha : F32.isFinite a = true) (hb : F32.isFinite b = true) :
    F32.mul a (F32.neg b) = F32.neg (F32.mul a b) := by
  rw [F32.mul_of_isFinite ha hb, F32.mul_of_isFinite ha (by rwa [F32.isFinite_neg]), F32.sign_neg,
    F32.mag_neg, F32.neg_pack _ (F32.roundNearest_lt _ _), Bool.bne_not]

theorem F32.neg_div {a b : F32} (ha : F32.isFinite a = true) (hb : F32.isFinite b = true)
    (hb0 : F32.mag b ≠ 0) : F32.div (F32.neg a) b = F32.neg (F32.div a b) := by
  rw [F32.div_of_isFinite ha hb hb0, F32.div_of_isFinite (by rwa [F32.isFinite_neg]) hb hb0,
    F32.sign_neg, F32.mag_neg, F32.neg_pack _ (F32.roundNearest_lt _ _), Bool.not_bne]

/-- TANH-ODD (R10). -/
theorem F32.tanh_neg (split : F32 → Split) {v : F32} (h : F32.isNaN v = false) :
    F32.tanh split (F32.neg v) = F32.neg (F32.tanh split v) := by
  obtain ⟨-, -, -, -, hodd⟩ := tanhIsOddAndInRange split
  exact ((hodd v).2 h).1

/-- A sum of two values of one sign is odd: a zero sum has their sign too. -/
theorem F32.neg_add_neg {a b : F32} (ha : F32.isFinite a = true) (hb : F32.isFinite b = true)
    (hs : F32.sign a = F32.sign b) :
    F32.add (F32.neg a) (F32.neg b) = F32.neg (F32.add a b) := by
  rw [F32.add_of_isFinite ha hb,
    F32.add_of_isFinite (by rwa [F32.isFinite_neg]) (by rwa [F32.isFinite_neg]), F32.sign_neg,
    F32.sign_neg, F32.toInt_neg, F32.toInt_neg, ← neg_add, hs, Bool.and_self, Bool.and_self]
  unfold F32.roundSum
  by_cases h0 : F32.toInt a + F32.toInt b = 0
  · rw [if_pos h0, if_pos (neg_eq_zero.2 h0), F32.neg_pack _ (by norm_num)]
  · rw [if_neg h0, if_neg (neg_ne_zero.2 h0), Int.natAbs_neg, F32.neg_pack _ (F32.roundNearest_lt _ _)]
    congr 1
    rw [← decide_not, decide_eq_decide]
    omega

/-! ### Operands that an operation leaves as they are -/

theorem F32.mag_one : F32.mag 0x3F800000#32 = F32.oneMag := by decide

theorem F32.sign_one : F32.sign 0x3F800000#32 = false := by decide

theorem F32.mag_zero : F32.mag 0x00000000#32 = 0 := by decide

theorem F32.sign_zero : F32.sign 0x00000000#32 = false := by decide

theorem F32.mul_one {a : F32} (ha : F32.isFinite a = true) : F32.mul a 0x3F800000#32 = a := by
  have hm := ((F32.isFinite_iff a).1 ha).le
  rw [F32.mul_of_isFinite ha (by decide), F32.mag_one, F32.scaled_oneMag,
    F32.roundNearest_scaled (by positivity) hm, F32.sign_one,
    Bool.bne_false, F32.pack_sign_mag]

/-- A product with `+0.0` is a zero of the sign of the other factor. -/
theorem F32.mul_zero {a : F32} (ha : F32.isFinite a = true) :
    F32.mul a 0x00000000#32 = F32.pack (F32.sign a) 0 := by
  have h0 : F32.roundNearest 0 (2 ^ 149) = 0 := by decide +kernel
  rw [F32.mul_of_isFinite ha (by decide), F32.mag_zero, F32.scaled_zero,
    Nat.mul_zero, h0, F32.sign_zero, Bool.bne_false]

/-- Rounding the integer of a finite value, under its sign if it is zero, gives the value back. -/
theorem F32.roundSum_toInt {a : F32} (ha : F32.isFinite a = true) :
    F32.roundSum (F32.sign a) (F32.toInt a) = a := by
  have hm := ((F32.isFinite_iff a).1 ha).le
  have habs : (F32.toInt a).natAbs = F32.scaled (F32.mag a) * 1 := by
    unfold F32.toInt
    split <;> simp
  have hpack := F32.pack_sign_mag a
  unfold F32.roundSum
  by_cases h0 : F32.toInt a = 0
  · rw [h0, Int.natAbs_zero, Nat.mul_one, eq_comm, F32.scaled_eq_zero] at habs
    rwa [if_pos h0, ← habs]
  · have hsign : decide (F32.toInt a < 0) = F32.sign a := by
      unfold F32.toInt at h0 ⊢
      cases hs : F32.sign a <;> simp_all [Nat.pos_iff_ne_zero]
    rwa [if_neg h0, hsign, habs, F32.roundNearest_scaled Nat.one_pos hm]

/-- Adding a zero of its own sign leaves a value as it is, a zero included. -/
theorem F32.add_pack_zero {a : F32} (ha : F32.isFinite a = true) :
    F32.add a (F32.pack (F32.sign a) 0) = a := by
  have hzero : F32.isFinite (F32.pack (F32.sign a) 0) = true := by
    rw [F32.isFinite_iff, F32.mag_pack _ (by norm_num)]
    decide
  rw [F32.add_of_isFinite ha hzero, F32.sign_pack _ (by norm_num), Bool.and_self,
    F32.toInt_pack _ (by norm_num), F32.scaled_zero, Nat.cast_zero, neg_zero, ite_self, add_zero,
    F32.roundSum_toInt ha]

/-- A finite value that is not zero, divided by itself, is 1 (R187). -/
theorem F32.div_self {a : F32} (ha : F32.isFinite a = true) (h0 : F32.mag a ≠ 0) :
    F32.div a a = 0x3F800000#32 := by
  have hpos : 0 < F32.scaled (F32.mag a) := Nat.pos_of_ne_zero (mt F32.scaled_eq_zero.1 h0)
  rw [F32.div_of_isFinite ha ha h0, bne_self_eq_false, mul_comm, ← F32.scaled_oneMag,
    F32.roundNearest_scaled hpos F32.oneMag_lt_infMag.le, F32.one_eq_pack]

/-- A product with a factor in `[0, 1]` does not overflow. -/
theorem F32.isFinite_mul_of_between {a b : F32} (ha : F32.isFinite a = true) (hb : F32.Between 0 1 b) :
    F32.isFinite (F32.mul a b) = true := by
  have hrep : F32.Representable |F32.toReal a| := by
    rw [← F32.toReal_abs]
    exact F32.representable_toReal (by rwa [F32.isFinite_abs])
  have habs : |F32.toReal a * F32.toReal b| ≤ |F32.toReal a| := by
    rw [abs_mul, abs_of_nonneg hb.lower]
    exact mul_le_of_le_one_right (abs_nonneg _) hb.upper
  exact ((F32.roundsTo_mul ha hb.finite).between hrep.neg hrep (abs_le.1 habs).1 (abs_le.1 habs).2).finite

/-! ### TANH within bounds (R10) -/

theorem F32.toReal_neg_one : F32.toReal 0xBF800000#32 = -1 := by
  rw [← F32.neg_one, F32.toReal_neg, F32.toReal_one]

/-- TANH-RANGE. -/
theorem F32.tanh_between (split : F32 → Split) {v : F32} (h : F32.isNaN v = false) :
    F32.Between (-1) 1 (F32.tanh split v) := by
  rw [← F32.toReal_neg_one, ← F32.toReal_one, F32.between_iff (by decide) (by decide)]
  obtain ⟨-, -, -, -, hrange⟩ := tanhIsOddAndInRange split
  exact ((hrange v).2 h).2

/-- `TANH(1)` is above a half, whichever end of its bracket is taken. -/
theorem F32.half_le_tanh_one (split : F32 → Split) :
    F32.le 0x3F000000#32 (F32.tanh split 0x3F800000#32) = true := by
  have hlo : 0x3F000000 ≤ F32.tanhLo (F32.scaled F32.oneMag) := by decide +kernel
  have hmem := F32.choose_mem split (F32.pack false F32.oneMag)
    (F32.tanhNear (F32.scaled F32.oneMag)) (F32.brackets_tanh (F32.scaled F32.oneMag)).lo_le_hi
  rw [← F32.tanhMag_of_ne split (by decide) (by decide)] at hmem
  rw [F32.tanh_eq_pack split (by decide), F32.mag_one, F32.sign_one,
    show 0x3F000000#32 = F32.pack false 0x3F000000 by decide,
    F32.le_pack_false_iff (by decide) ((F32.tanhMag_le_one split _).trans F32.oneMag_lt_infMag.le)]
  exact hlo.trans hmem.1

end Sys2Proof
end

section
/-! PROOFS. DST in binary32 (44_distortion.md): its drive and divisor stay away from zero (R186, R187), and
both terms of its mix have the sign of the operand, so that it is odd (R190). -/

namespace Sys2Proof.Machine

/-! ### The drive and the divisor (R186, R187) -/

/-- R186: the drive runs from 1 to 10. -/
theorem drive_between {d : F32} (hd : inUnit d = true) : F32.Between 1 10 (drive hardware d) := by
  have hd := inUnit_iff.1 hd
  obtain ⟨hnine, hnine'⟩ := F32.toReal_ofNat (n := 9) (by norm_num)
  have hprod : F32.Between 0 9 (F32.mul d (F32.ofNat 9)) := by
    refine (F32.roundsTo_mul hd.finite hnine).between F32.representable_zero
      (F32.representable_numeral (by norm_num)) ?_ ?_ <;>
    · rw [hnine', Nat.cast_ofNat]
      linarith [hd.lower, hd.upper]
  rw [drive, hardware_one]
  refine (F32.roundsTo_add isFinite_one hprod.finite).between F32.representable_one
    (F32.representable_numeral (by norm_num)) ?_ ?_ <;>
  · rw [F32.toReal_one]
    linarith [hprod.lower, hprod.upper]

theorem sign_drive {d : F32} (hd : inUnit d = true) : F32.sign (drive hardware d) = false := by
  have h := drive_between hd
  refine (F32.pos_facts ((F32.lt_iff_toReal isFinite_zero h.finite).2 ?_)).1
  rw [F32.toReal_zero]
  linarith [h.lower]

/-- R187: the divisor lies between `TANH(1)` and 1. -/
theorem tanh_drive_between {d : F32} (hd : inUnit d = true) :
    F32.Between (1 / 2) 1 (F32.tanh Config.tanhSplit (drive hardware d)) := by
  have hdrive := drive_between hd
  have hle : F32.le 0x3F800000#32 (drive hardware d) = true := by
    rw [F32.le_iff_toReal isFinite_one hdrive.finite, F32.toReal_one]
    exact hdrive.lower
  have htanh := F32.tanh_between Config.tanhSplit (F32.not_isNaN_of_isFinite hdrive.finite)
  refine ⟨htanh.finite, ?_, htanh.upper⟩
  rw [← F32.toReal_half, ← F32.le_iff_toReal (by decide) htanh.finite]
  exact F32.le_trans (F32.half_le_tanh_one _) (F32.tanh_mono _ hle)

theorem mag_tanh_drive_ne_zero {d : F32} (hd : inUnit d = true) :
    F32.mag (F32.tanh Config.tanhSplit (drive hardware d)) ≠ 0 := by
  rw [Ne, ← F32.toReal_eq_zero_iff]
  linarith [(tanh_drive_between hd).lower]

theorem sign_tanh_drive {d : F32} (hd : inUnit d = true) :
    F32.sign (F32.tanh Config.tanhSplit (drive hardware d)) = false := by
  rw [F32.sign_tanh _ (F32.not_isNaN_of_isFinite (drive_between hd).finite), sign_drive hd]

/-! ### The shaped signal (R187) -/

/-- The shaped signal's numerator, whose operand may overflow to an infinity. -/
theorem tanh_drive_mul_between {d x : F32} (hd : inUnit d = true) (hx : F32.isFinite x = true) :
    F32.Between (-1) 1 (F32.tanh Config.tanhSplit (F32.mul (drive hardware d) x)) :=
  F32.tanh_between _ (F32.isNaN_mul (drive_between hd).finite hx)

theorem isFinite_shaped {d x : F32} (hd : inUnit d = true) (hx : F32.isFinite x = true) :
    F32.isFinite (shaped hardware d x) = true := by
  have hnum := tanh_drive_mul_between hd hx
  have hden := tanh_drive_between hd
  have hpos : 0 < F32.toReal (F32.tanh Config.tanhSplit (drive hardware d)) := by linarith [hden.lower]
  have htwo : F32.Representable 2 := F32.representable_numeral (by norm_num)
  refine ((F32.roundsTo_div hnum.finite hden.finite hpos.ne').between htwo.neg htwo ?_ ?_).finite
  · rw [le_div_iff₀ hpos]
    linarith [hnum.lower, hden.lower]
  · rw [div_le_iff₀ hpos]
    linarith [hnum.upper, hden.lower]

theorem sign_shaped {d x : F32} (hd : inUnit d = true) (hx : F32.isFinite x = true) :
    F32.sign (shaped hardware d x) = F32.sign x := by
  have hdrive := (drive_between hd).finite
  have hnum := tanh_drive_mul_between hd hx
  simp only [shaped, hardware_div, hardware_tanh, hardware_mul]
  rw [F32.sign_div hnum.finite (tanh_drive_between hd).finite (mag_tanh_drive_ne_zero hd),
    F32.sign_tanh _ (F32.isNaN_mul hdrive hx), F32.sign_mul hdrive hx, sign_drive hd, sign_tanh_drive hd,
    Bool.false_bne, Bool.bne_false]

theorem shaped_neg {d x : F32} (hd : inUnit d = true) (hx : F32.isFinite x = true) :
    shaped hardware d (F32.neg x) = F32.neg (shaped hardware d x) := by
  have hdrive := (drive_between hd).finite
  simp only [shaped, hardware_div, hardware_tanh, hardware_mul]
  rw [F32.mul_neg hdrive hx, F32.tanh_neg _ (F32.isNaN_mul hdrive hx),
    F32.neg_div (tanh_drive_mul_between hd hx).finite (tanh_drive_between hd).finite
      (mag_tanh_drive_ne_zero hd)]

/-- R187: `x = 1` maps to 1 exactly. -/
theorem shaped_one {d : F32} (hd : inUnit d = true) :
    shaped hardware d 0x3F800000#32 = 0x3F800000#32 := by
  simp only [shaped, hardware_div, hardware_tanh, hardware_mul]
  rw [F32.mul_one (drive_between hd).finite,
    F32.div_self (tanh_drive_between hd).finite (mag_tanh_drive_ne_zero hd)]

theorem shaped_neg_one {d : F32} (hd : inUnit d = true) :
    shaped hardware d 0xBF800000#32 = 0xBF800000#32 := by
  rw [← F32.neg_one, shaped_neg hd isFinite_one, shaped_one hd]

/-! ### The mix (R188, R190) -/

theorem distort_hardware (d x : F32) :
    distort hardware d x =
      F32.add (F32.mul x (F32.sub 0x3F800000#32 d)) (F32.mul (shaped hardware d x) d) := by
  simp only [distort, hardware_add, hardware_mul, hardware_sub, hardware_one]

/-- The dry amount `1 - d` of R188. -/
theorem dryAmount_between {d : F32} (hd : inUnit d = true) :
    F32.Between 0 1 (F32.sub 0x3F800000#32 d) := by
  have hd := inUnit_iff.1 hd
  refine (F32.roundsTo_sub isFinite_one hd.finite).between F32.representable_zero
    F32.representable_one ?_ ?_ <;>
  · rw [F32.toReal_one]
    linarith [hd.lower, hd.upper]

theorem sign_dryAmount {d : F32} (hd : inUnit d = true) :
    F32.sign (F32.sub 0x3F800000#32 d) = false := by
  have hd := inUnit_iff.1 hd
  rw [F32.sub_eq_add_neg isFinite_one hd.finite]
  refine F32.sign_add_of_nonneg isFinite_one (by rw [F32.isFinite_neg, hd.finite]) (by decide) ?_
  rw [F32.toReal_one, F32.toReal_neg]
  linarith [hd.upper]

/-- R190 (c): the two terms of the mix are odd, and of one sign, so that a zero sum is odd too. -/
theorem distort_neg {d x : F32} (hd : inUnit d = true) (hsign : F32.sign d = false)
    (hx : F32.isFinite x = true) : distort hardware d (F32.neg x) = F32.neg (distort hardware d x) := by
  have hdry := dryAmount_between hd
  have hwet := inUnit_iff.1 hd
  have hy := isFinite_shaped hd hx
  have hsame : F32.sign (F32.mul x (F32.sub 0x3F800000#32 d)) =
      F32.sign (F32.mul (shaped hardware d x) d) := by
    rw [F32.sign_mul hx hdry.finite, F32.sign_mul hy hwet.finite, sign_dryAmount hd, hsign,
      sign_shaped hd hx]
  rw [distort_hardware, distort_hardware, shaped_neg hd hx, F32.neg_mul hx hdry.finite,
    F32.neg_mul hy hwet.finite,
    F32.neg_add_neg (F32.isFinite_mul_of_between hx hdry) (F32.isFinite_mul_of_between hy hwet) hsame]

/-- R190 (a): the wet term is a zero of the operand's sign, and the dry one is the operand. -/
theorem distort_zero {x : F32} (hx : F32.isFinite x = true) : distort hardware 0x00000000#32 x = x := by
  have hd : inUnit 0x00000000#32 = true := by decide
  have hdry : F32.sub 0x3F800000#32 0x00000000#32 = 0x3F800000#32 := by decide +kernel
  rw [distort_hardware, hdry, F32.mul_one hx, F32.mul_zero (isFinite_shaped hd hx), sign_shaped hd hx,
    F32.add_pack_zero hx]

/-- Settles O43, clause by clause of R190 (a), (c) and R187. -/
theorem distortionInBinary32 : Obligations.DistortionInBinary32 :=
  ⟨fun _ _ hd hsign hx => distort_neg hd hsign hx, fun _ hx => distort_zero hx,
    fun _ hd => ⟨shaped_one hd, shaped_neg_one hd⟩⟩

end Sys2Proof.Machine
end

section
/-! PROOFS. DST over the reals (44_distortion.md R190): the shaped signal grows with its operand, is 1 at 1
and below `1 / tanh 1` everywhere, and the mix of R188 keeps what the two signals have in common. -/

namespace Sys2Proof

/-! ### The hyperbolic tangent -/

theorem monotone_tanh : Monotone Real.tanh := by
  intro x y h
  rw [tanh_eq_exp_two_mul, tanh_eq_exp_two_mul]
  exact tanhRatio_mono one_pos (Real.exp_pos _).le (Real.exp_le_exp.2 (by linarith))

/-- R190 (e): `1 / tanh 1` is at most 1.3130353, from the bound `2.7182818283 < e`. -/
theorem le_tanh_one : 1 / 1.3130353 ≤ Real.tanh 1 := by
  have he : (7.38905605 : ℝ) ≤ Real.exp (2 * 1) := by
    rw [two_mul, Real.exp_add]
    nlinarith [Real.exp_one_gt_d9]
  rw [tanh_eq_exp_two_mul, div_le_div_iff₀ (by norm_num) (by positivity)]
  linarith

end Sys2Proof

namespace Sys2Proof.Machine

section Distortion

variable {d x : ℝ}

/-! ### The shaped signal (R186, R187) -/

theorem drive_real (d : ℝ) : drive realNum d = 1 + d * 9 := by
  simp [drive]

theorem shaped_real (d x : ℝ) :
    shaped realNum d x = Real.tanh ((1 + d * 9) * x) / Real.tanh (1 + d * 9) := by
  rw [shaped, drive_real]
  rfl

/-- R187: the divisor is at least `tanh 1`. -/
theorem tanh_one_le_tanh_drive (hd : 0 ≤ d) : Real.tanh 1 ≤ Real.tanh (1 + d * 9) :=
  monotone_tanh (by linarith)

theorem tanh_drive_pos (hd : 0 ≤ d) : 0 < Real.tanh (1 + d * 9) :=
  (by norm_num : (0 : ℝ) < 1 / 1.3130353).trans_le (le_tanh_one.trans (tanh_one_le_tanh_drive hd))

theorem shaped_real_mono (hd : 0 ≤ d) : Monotone (shaped realNum d) := by
  intro x y h
  rw [shaped_real, shaped_real]
  exact div_le_div_of_nonneg_right (monotone_tanh (mul_le_mul_of_nonneg_left h (by linarith)))
    (tanh_drive_pos hd).le

theorem shaped_real_one (hd : 0 ≤ d) : shaped realNum d 1 = 1 := by
  rw [shaped_real, mul_one, div_self (tanh_drive_pos hd).ne']

theorem shaped_real_neg_one (hd : 0 ≤ d) : shaped realNum d (-1) = -1 := by
  rw [shaped_real, mul_neg_one, Real.tanh_neg, neg_div, div_self (tanh_drive_pos hd).ne']

/-- R190 (e): between its fixed points the shaped signal stays between them. -/
theorem abs_shaped_real_le_one (hd : 0 ≤ d) (hx : |x| ≤ 1) : |shaped realNum d x| ≤ 1 := by
  obtain ⟨hlo, hhi⟩ := abs_le.1 hx
  rw [abs_le, ← shaped_real_neg_one hd]
  exact ⟨shaped_real_mono hd hlo, (shaped_real_mono hd hhi).trans_eq (shaped_real_one hd)⟩

/-- R190 (e): the numerator is below 1 in magnitude, the divisor at least `tanh 1`. -/
theorem abs_shaped_real_lt (hd : 0 ≤ d) (x : ℝ) : |shaped realNum d x| < 1.3130353 := by
  have hpos := tanh_drive_pos hd
  have hden := le_tanh_one.trans (tanh_one_le_tanh_drive hd)
  rw [shaped_real, abs_div, abs_of_pos hpos, div_lt_iff₀ hpos]
  calc |Real.tanh ((1 + d * 9) * x)| < 1 := Real.abs_tanh_lt_one _
    _ = 1.3130353 * (1 / 1.3130353) := by norm_num
    _ ≤ 1.3130353 * Real.tanh (1 + d * 9) := mul_le_mul_of_nonneg_left hden (by norm_num)

/-! ### The mix (R188, R190) -/

theorem distort_real (d x : ℝ) : distort realNum d x = x * (1 - d) + shaped realNum d x * d := by
  simp [distort]

/-- The mix is at most the mix of the magnitudes. -/
theorem abs_distort_real_le (hd0 : 0 ≤ d) (hd1 : d ≤ 1) (x : ℝ) :
    |distort realNum d x| ≤ |x| * (1 - d) + |shaped realNum d x| * d := by
  rw [distort_real]
  refine (abs_add_le _ _).trans_eq ?_
  rw [abs_mul, abs_mul, abs_of_nonneg hd0, abs_of_nonneg (sub_nonneg.2 hd1)]

/-- R190 (e), within the fixed points. -/
theorem abs_distort_real_le_one (hd0 : 0 ≤ d) (hd1 : d ≤ 1) (hx : |x| ≤ 1) :
    |distort realNum d x| ≤ 1 := by
  calc |distort realNum d x| ≤ |x| * (1 - d) + |shaped realNum d x| * d := abs_distort_real_le hd0 hd1 x
    _ ≤ 1 * (1 - d) + 1 * d := add_le_add (mul_le_mul_of_nonneg_right hx (sub_nonneg.2 hd1))
        (mul_le_mul_of_nonneg_right (abs_shaped_real_le_one hd0 hx) hd0)
    _ = 1 := by ring

/-- R190 (e), everywhere, the distortion being on. -/
theorem abs_distort_real_lt (hd0 : 0 < d) (hd1 : d ≤ 1) (x : ℝ) :
    |distort realNum d x| < |x| * (1 - d) + 1.3130353 * d :=
  (abs_distort_real_le hd0.le hd1 x).trans_lt
    (add_lt_add_right (mul_lt_mul_of_pos_right (abs_shaped_real_lt hd0.le x) hd0) _)

/-- R190 (d): a fixed point of the shaped signal is one of the mix. -/
theorem distort_real_of_shaped (h : shaped realNum d x = x) : distort realNum d x = x := by
  rw [distort_real, h]
  ring

/-- R190 (b). -/
theorem distort_real_full (x : ℝ) : distort realNum 1 x = Real.tanh (10 * x) / Real.tanh 10 := by
  rw [distort_real, shaped_real]
  norm_num

/-- R190 (f). -/
theorem distort_real_mono (hd0 : 0 ≤ d) (hd1 : d ≤ 1) : Monotone (distort realNum d) := by
  intro x y h
  rw [distort_real, distort_real]
  exact add_le_add (mul_le_mul_of_nonneg_right h (sub_nonneg.2 hd1))
    (mul_le_mul_of_nonneg_right (shaped_real_mono hd0 h) hd0)

end Distortion

/-- Settles O60, clause by clause of R190 (b), (d), (e) and (f). -/
theorem distortionOverTheReals : Obligations.DistortionOverTheReals := by
  intro d x hd0 hd1
  refine ⟨abs_distort_real_le_one hd0 hd1, fun _ => ?_,
    distort_real_of_shaped (shaped_real_one hd0), distort_real_of_shaped (shaped_real_neg_one hd0),
    fun h => h ▸ distort_real_full x, fun x' h => distort_real_mono hd0 hd1 h⟩
  exact hd0.eq_or_lt.elim (fun h => .inr h.symm) fun hpos => .inl (abs_distort_real_lt hpos hd1 x)

end Sys2Proof.Machine
end

section
/-! PROOFS. VOX (45_voice.md): the registers that a note, `NOTE_OFF` and a rendered sample write. -/

namespace Sys2Proof.Machine

/-- Settles O16: `NOTE_OFF` writes the gate alone. -/
theorem noteOffClearsTheGateOnly : Obligations.NoteOffClearsTheGateOnly := exec_noteOff

/-- Settles O27: the render's registers and its sample, each as its step writes it. -/
theorem renderFollowsTheSixSteps : Obligations.RenderFollowsTheSixSteps := fun _ _ _ _ _ => rfl

/-- The ROM word of an 8-bit note number is that of `min(midi, 127)` (R15 d, R43). -/
theorem noteHz_clampNote {α : Type} (p : Params α) (midi : BitVec 8) :
    noteHz p (clampNote midi) = p.noteHz[min midi.toNat 127]'(by omega) := by
  simp only [noteHz, toNat_clampNote]

/-- R166: a note glides if its slide bit is set and the envelope is above the threshold. -/
theorem glides_hardware_iff (t : Tuning F32) (slide : Bool) (envValue : F32) :
    glides hardware t slide envValue = true ↔
      slide = true ∧ F32.lt t.slideThreshold envValue = true := by
  simp [glides]

/-- R151 in binary32: the coefficient of a trigger. -/
theorem triggerCoef_hardware (t : Tuning F32) (decayMs : F32) (accent : Bool) :
    triggerCoef hardware t decayMs accent =
      F32.exp Config.expSplit (F32.div 0xBF800000#32
        (F32.div (F32.mul (if accent = true then F32.mul decayMs t.accentDecayScale else decayMs) t.sr)
          0x447A0000#32)) := by
  simp only [triggerCoef, msToSamples, triggerMs, hardware_exp, hardware_div, hardware_mul, hardware_neg,
    hardware_one, hardware_ofNat, F32.neg_one, F32.ofNat_thousand]

/-- Settles O15: the two paths of `SLD.note`, each with the registers it writes. -/
theorem noteOnGlidesOrRetriggers : Obligations.NoteOnGlidesOrRetriggers := by
  intro midi accent slide s hz ms
  have hrom : noteHz s.params (clampNote midi) = hz := noteHz_clampNote s.params midi
  rw [exec_noteOn, State.onEngine, noteOnWith_eq]
  rcases playNote_cases hardware s.params s.cr (clampNote midi) accent slide s.voice with
    ⟨hglide, hvoice⟩ | ⟨hjump, hvoice⟩
  · rw [if_pos ((glides_hardware_iff _ _ _).1 hglide), hvoice, hrom]
    rfl
  · have hnot := mt (glides_hardware_iff s.params.tuning slide s.voice.envValue).2 (by simp [hjump])
    rw [if_neg hnot, hvoice, hrom, triggerCoef_hardware, hardware_zero, hardware_one]
    rfl

end Sys2Proof.Machine
end

section
/-! PROOFS. No rule reads the gate (10_state.md R24), so a stream of commands without its `NOTE_OFF`s
cannot be told from the stream with them (45_voice.md R197). -/

namespace Sys2Proof.Machine

/-! ### Commands after a NOTE_OFF -/

section Gate

variable {α : Type} (N : NumSys α)

theorem noteOff_trig (e : EngineState α) : (noteOff e).trig = e.trig := rfl

/-- What a command makes of the groups of R20 is the same, but for the gate, whether or not a `NOTE_OFF`
came before it. -/
def IgnoresGate (f : EngineState α → EngineState α) : Prop :=
  ∀ e, noteOff (f (noteOff e)) = noteOff (f e)

/-- A note sets the gate, and reads every other register alone. -/
theorem playNote_setGate (p : Params α) (c : ConfigRegs α) (m : BitVec 7) (a sl b : Bool)
    (v : VoiceRegs α) : playNote N p c m a sl (setGate b v) = playNote N p c m a sl v := rfl

/-- A render leaves the gate, and reads every other register alone. -/
theorem renderVoice_setGate (p : Params α) (c : ConfigRegs α) (b : Bool) (v : VoiceRegs α) :
    renderVoice N p c (setGate b v) =
      ((renderVoice N p c v).1, setGate b (renderVoice N p c v).2) := rfl

theorem ignoresGate_noteOnWith (m : BitVec 8) (a sl : Bool) : IgnoresGate (noteOnWith N m a sl) := by
  intro e
  simp only [noteOnWith_eq, noteOff_eq, EngineState.setVoice_params, EngineState.setVoice_cr,
    EngineState.setVoice_voice, playNote_setGate]
  rfl

theorem ignoresGate_setFloat (r : FloatReg) (v : α) : IgnoresGate (setFloat N r v) := by
  intro e
  rcases setFloat_uniform N r v with h | ⟨x, h⟩ <;> rw [h, h] <;> rfl

theorem ignoresGate_setWaveform (w : BitVec 32) : IgnoresGate (setWaveform (α := α) w) := by
  intro e
  unfold setWaveform
  split <;> rfl

theorem ignoresGate_writeSynthStep (i : BitVec 8) (x : SynthStep) :
    IgnoresGate (writeSynthStep (α := α) i x) := by
  intro e
  unfold writeSynthStep
  split <;> rfl

theorem ignoresGate_writeDrumStep (i : BitVec 8) (x : DrumStep) :
    IgnoresGate (writeDrumStep (α := α) i x) := by
  intro e
  unfold writeDrumStep
  split <;> rfl

theorem ignoresGate_playStep (x : SynthStep) : IgnoresGate (playStep N x) := by
  intro e
  unfold playStep
  split
  · exact ignoresGate_noteOnWith N _ _ _ e
  · rfl

/-- SEQ's half of `TICK` raises the same triggers, and leaves the same state but for the gate. -/
theorem sequence_noteOff (e : EngineState α) :
    (sequence N (noteOff e)).1 = (sequence N e).1 ∧
      noteOff (sequence N (noteOff e)).2 = noteOff (sequence N e).2 := by
  unfold sequence
  simp only [noteOff_eq, EngineState.setVoice_params, EngineState.setVoice_cr, EngineState.setVoice_seq]
  split
  · exact ⟨rfl, rfl⟩
  · next i _ =>
    exact ⟨rfl, ignoresGate_playStep N (e.readSynthStep i)
      (e.setSeq (seqTick N e.params e.cr.tempoBpm e.seq).2)⟩

/-- The rest of `TICK` keeps a cleared gate cleared, and changes nothing else for it. -/
theorem finishTick_noteOff (trig : BitVec 4) (d : DrumSamples α) (e : EngineState α) :
    finishTick N trig d (noteOff e) = noteOff (finishTick N trig d e) := by
  simp only [finishTick, noteOff_eq, EngineState.setVoice_params, EngineState.setVoice_cr,
    EngineState.setVoice_voice, renderVoice_setGate]
  rfl

theorem ignoresGate_tickWith (oracle : DrumOracle α) : IgnoresGate (tickWith N oracle) := by
  intro e
  obtain ⟨htrig, hstate⟩ := sequence_noteOff N e
  rw [tickWith_eq, tickWith_eq, ← finishTick_noteOff, ← finishTick_noteOff, htrig, hstate]

end Gate

/-- A command of the groups of R20 alone, after a `NOTE_OFF`. -/
theorem IgnoresGate.onEngine {f : EngineState F32 → EngineState F32} (h : IgnoresGate f) (s : State) :
    ((s.onEngine noteOff).onEngine f).onEngine noteOff = (s.onEngine f).onEngine noteOff := by
  simp only [State.onEngine, h s.toEngineState]

/-- A `TICK` after a `NOTE_OFF`: the environment is shown the same triggers. -/
theorem afterCommand_tick_noteOff (s : State) :
    (afterCommand .tick (s.onEngine noteOff)).onEngine noteOff =
      (afterCommand .tick s).onEngine noteOff := by
  have h := ignoresGate_tickWith hardware s.drumOracle s.toEngineState
  have htrig : (tickWith hardware s.drumOracle (noteOff s.toEngineState)).trig =
      (tickWith hardware s.drumOracle s.toEngineState).trig := by
    rw [← noteOff_trig, h, noteOff_trig]
  rw [afterCommand_tick, afterCommand_tick, drumOracle_onEngine]
  simp only [State.onEngine, h, htrig]

/-- No command reads the gate: after a `NOTE_OFF` each leaves the same state but for the gate. -/
theorem afterCommand_noteOff (i : Instr) (s : State) :
    (afterCommand i (s.onEngine noteOff)).onEngine noteOff = (afterCommand i s).onEngine noteOff := by
  cases i with
  | tick => exact afterCommand_tick_noteOff s
  | noteOn m a sl => exact (ignoresGate_noteOnWith hardware m a sl).onEngine s
  | setWaveform w => exact (ignoresGate_setWaveform w).onEngine s
  | setCutoff v => exact (ignoresGate_setFloat hardware .cutoffHz v).onEngine s
  | setResonance v => exact (ignoresGate_setFloat hardware .resonance v).onEngine s
  | setEnvMod v => exact (ignoresGate_setFloat hardware .envMod v).onEngine s
  | setDecay v => exact (ignoresGate_setFloat hardware .decayMs v).onEngine s
  | setAccent v => exact (ignoresGate_setFloat hardware .accentAmount v).onEngine s
  | setSlideTime v => exact (ignoresGate_setFloat hardware .slideTimeMs v).onEngine s
  | setDistortion v => exact (ignoresGate_setFloat hardware .distortion v).onEngine s
  | setTempo v => exact (ignoresGate_setFloat hardware .tempoBpm v).onEngine s
  | setSynthVolume v => exact (ignoresGate_setFloat hardware .synthGain v).onEngine s
  | setDrumVolume v => exact (ignoresGate_setFloat hardware .drumMasterGain v).onEngine s
  | setKickVolume v => exact (ignoresGate_setFloat hardware .kickGain v).onEngine s
  | setSnareVolume v => exact (ignoresGate_setFloat hardware .snareGain v).onEngine s
  | setHihatVolume v => exact (ignoresGate_setFloat hardware .hihatGain v).onEngine s
  | setSynthStep i n a sl v => exact (ignoresGate_writeSynthStep i _).onEngine s
  | setDrumStep i k n c o => exact (ignoresGate_writeDrumStep i _).onEngine s
  | noteOff | start | stop | getSynthStep | getDrumStep | synthStepChanged | drumStepChanged => rfl

/-! ### Streams without their NOTE_OFFs (R197) -/

/-- The comparison of R197 is that of the states after a `NOTE_OFF`, the pulses ended. -/
theorem withoutGate_eq (s : State) : withoutGate s = (s.accept s.port).onEngine noteOff := rfl

/-- The ports do not show the gate. -/
theorem outputs_onEngine_noteOff (s : State) : (s.onEngine noteOff).outputs = s.outputs := rfl

theorem withoutGate_onEngine_noteOff (s : State) : withoutGate (s.onEngine noteOff) = withoutGate s := rfl

/-- A `NOTE_OFF` in a stream changes the gate alone. -/
theorem withoutGate_performCommand_noteOff (s : State) :
    withoutGate (performCommand .noteOff s) = withoutGate s := rfl

/-- A `NOTE_OFF` in a stream makes no sample and no response. -/
theorem outputs_performCommand_noteOff (s : State) :
    (performCommand .noteOff s).outputs.sample = none ∧
      (performCommand .noteOff s).outputs.response = none := ⟨rfl, rfl⟩

/-- A command from two states that agree but for the gate shows the same at the ports and leaves two such
states. -/
theorem performCommand_congr (i : Instr) {s t : State} (h : withoutGate s = withoutGate t) :
    (performCommand i s).outputs = (performCommand i t).outputs ∧
      withoutGate (performCommand i s) = withoutGate (performCommand i t) := by
  have hafter : (performCommand i s).onEngine noteOff = (performCommand i t).onEngine noteOff := by
    rw [withoutGate_eq, withoutGate_eq] at h
    rw [performCommand, performCommand, ← afterCommand_noteOff, h, afterCommand_noteOff]
  constructor
  · rw [← outputs_onEngine_noteOff, hafter, outputs_onEngine_noteOff]
  · rw [← withoutGate_onEngine_noteOff, hafter, withoutGate_onEngine_noteOff]

theorem streamSamples_cons (i : Instr) (cs : List Instr) (s : State) :
    streamSamples (i :: cs) s =
      (performCommand i s).outputs.sample.toList ++ streamSamples cs (performCommand i s) := by
  cases h : (performCommand i s).outputs.sample <;> simp [streamSamples, streamOutputs, h]

theorem streamResponses_cons (i : Instr) (cs : List Instr) (s : State) :
    streamResponses (i :: cs) s =
      (performCommand i s).outputs.response.toList ++ streamResponses cs (performCommand i s) := by
  cases h : (performCommand i s).outputs.response <;> simp [streamResponses, streamOutputs, h]

/-- A stream without its `NOTE_OFF`s, from a state that agrees but for the gate. -/
theorem stream_without_noteOff (cs : List Instr) {s t : State} (h : withoutGate s = withoutGate t) :
    streamSamples (cs.filter fun i => decide (i ≠ .noteOff)) s = streamSamples cs t ∧
      streamResponses (cs.filter fun i => decide (i ≠ .noteOff)) s = streamResponses cs t ∧
      withoutGate (runStream (cs.filter fun i => decide (i ≠ .noteOff)) s) =
        withoutGate (runStream cs t) := by
  induction cs generalizing s t with
  | nil => exact ⟨rfl, rfl, h⟩
  | cons i cs ih =>
    by_cases hi : i = .noteOff
    · subst hi
      obtain ⟨hsample, hresponse⟩ := outputs_performCommand_noteOff t
      rw [List.filter_cons_of_neg (by simp), streamSamples_cons, streamResponses_cons, hsample, hresponse,
        runStream]
      exact ih (h.trans (withoutGate_performCommand_noteOff t).symm)
    · obtain ⟨houtputs, hstate⟩ := performCommand_congr i h
      obtain ⟨hsamples, hresponses, hend⟩ := ih hstate
      rw [List.filter_cons_of_pos (by simpa using hi)]
      simp only [streamSamples_cons, streamResponses_cons, runStream, houtputs, hsamples, hresponses, hend,
        and_self]

/-- Settles O17: no command reads the gate, and a `NOTE_OFF` shows nothing at the ports. -/
theorem noteOffIsUnobservable : Obligations.NoteOffIsUnobservable :=
  fun cs _ => stream_without_noteOff cs rfl

end Sys2Proof.Machine
end

section
/-! PROOFS. The configuration setters (45_voice.md R210, R211). -/

namespace Sys2Proof

/-- The two values equal to zero (R8). -/
theorem F32.eq_zero_of_toInt_eq_zero {v : F32} (h : F32.toInt v = 0) :
    v = 0x00000000#32 ∨ v = 0x80000000#32 := by
  have hmag : F32.mag v = 0 := by
    unfold F32.toInt at h
    rw [← F32.scaled_eq_zero]
    split at h <;> omega
  rw [← F32.pack_sign_mag v, hmag]
  cases F32.sign v
  · exact .inl rfl
  · exact .inr rfl

end Sys2Proof

namespace Sys2Proof.Machine

/-! ### SETF (R210) -/

/-- `clamp` (R11) from `+0.0` up: a `-0.0` becomes `+0.0`. -/
theorem hardware_clamp_zero {v hi : F32} (hv : F32.isNaN v = false)
    (hlt : F32.lt 0x00000000#32 hi = true) :
    hardware.clamp v 0x00000000#32 hi =
      if F32.lt v 0x00000000#32 = true then 0x00000000#32
      else if F32.lt hi v = true then hi
      else if v = 0x80000000#32 then 0x00000000#32
      else v := by
  obtain ⟨hzero, hhi, hpos⟩ := F32.lt_iff.1 hlt
  have h0 : F32.toInt 0x00000000#32 = 0 := by decide
  rw [h0] at hpos
  have hclamp : hardware.clamp v 0x00000000#32 hi =
      if 0 < F32.toInt v then (if F32.toInt v < F32.toInt hi then v else hi) else 0x00000000#32 := by
    simp only [NumSys.clamp, NumSys.max, NumSys.min, hardware_lt]
    by_cases h : 0 < F32.toInt v <;> simp [F32.lt_iff, hv, hhi, hzero, h0, hpos, h]
  simp only [hclamp, F32.lt_iff, hv, hzero, hhi, h0, true_and]
  rcases lt_trichotomy (F32.toInt v) 0 with h | h | h
  · rw [if_neg h.not_gt, if_pos h]
  · rw [if_neg h.not_gt, if_neg h.not_lt, if_neg (by omega)]
    rcases F32.eq_zero_of_toInt_eq_zero h with rfl | rfl
    · rfl
    · rfl
  · have hne : v ≠ 0x80000000#32 := by
      rintro rfl
      exact absurd h (by decide)
    rw [if_pos h, if_neg h.not_gt, if_neg hne]
    rcases lt_trichotomy (F32.toInt v) (F32.toInt hi) with h' | h' | h'
    · rw [if_pos h', if_neg h'.not_gt]
    · rw [if_neg h'.not_lt, if_neg h'.not_gt, F32.eq_of_toInt_eq h' hpos.ne']
    · rw [if_neg h'.not_gt, if_pos h']

/-- The bounds of every register (R38): the lower is `+0.0` or not a zero, the upper is above it and not a
zero. -/
theorem floatReg_bounds (r : FloatReg) :
    (FloatReg.lo r = 0x00000000#32 ∨ F32.toInt (FloatReg.lo r) ≠ 0) ∧
      F32.lt (FloatReg.lo r) (FloatReg.hi r) = true ∧ F32.toInt (FloatReg.hi r) ≠ 0 := by
  cases r <;> decide +kernel

/-- What `SETF` stores (R210). -/
theorem hardware_clamp_floatReg {v : F32} (hv : F32.isNaN v = false) (r : FloatReg) :
    hardware.clamp v (FloatReg.lo r) (FloatReg.hi r) =
      if F32.lt v (FloatReg.lo r) = true then FloatReg.lo r
      else if F32.lt (FloatReg.hi r) v = true then FloatReg.hi r
      else if v = 0x80000000#32 ∧ FloatReg.lo r = 0x00000000#32 then 0x00000000#32
      else v := by
  obtain ⟨hlo, hlt, hhi⟩ := floatReg_bounds r
  rcases hlo with hlo | hlo
  · rw [hlo] at hlt ⊢
    simp only [hardware_clamp_zero hv hlt, and_true]
  · have hne : ¬(v = 0x80000000#32 ∧ FloatReg.lo r = 0x00000000#32) := by
      rintro ⟨-, h⟩
      exact hlo (by rw [h]; decide)
    rw [hardware_clamp_eq hv hlt hlo hhi, if_neg hne]

/-- Writing a register's own value changes nothing. -/
theorem writeReg_readReg {α : Type} (c : ConfigRegs α) (r : FloatReg) : writeReg c r (readReg c r) = c := by
  cases r <;> rfl

/-- Each of the 13 setters is `SETF` of its register with that register's bounds (R210). -/
theorem exec_floatSetters (v : F32) : ∀ row ∈ floatSetters v,
    (∀ s, exec row.1 s = .next (s.onEngine (setFloat hardware row.2.1 v))) ∧
      row.2.2.1 = FloatReg.lo row.2.1 ∧ row.2.2.2 = FloatReg.hi row.2.1 := by
  intro row hrow
  simp only [floatSetters, List.mem_cons, List.not_mem_nil, or_false] at hrow
  rcases hrow with rfl | rfl | rfl | rfl | rfl | rfl | rfl | rfl | rfl | rfl | rfl | rfl | rfl <;>
    exact ⟨fun _ => rfl, rfl, rfl⟩

/-- Settles O13: each setter is `SETF`, which ignores a NaN and stores the clamp of anything else. -/
theorem floatSettersClampAndStore : Obligations.FloatSettersClampAndStore := by
  intro v s row hrow
  obtain ⟨hexec, hlo, hhi⟩ := exec_floatSetters v row hrow
  rw [hexec, hlo, hhi, State.onEngine]
  rcases setFloat_cases hardware row.2.1 v s.toEngineState with ⟨hnan, h⟩ | ⟨hnan, h⟩ <;>
    rw [hardware_isNaN] at hnan
  · rw [h, if_pos hnan, writeReg_readReg]
  · rw [h, if_neg (by rw [hnan]; decide), hardware_lit, hardware_lit, hardware_clamp_floatReg hnan]
    rfl

/-! ### SET_WAVEFORM (R211) -/

/-- Settles O14: the selectors 0 and 1 are stored, and any other is ignored. -/
theorem setWaveformSelectsOrIgnores : Obligations.SetWaveformSelectsOrIgnores := by
  intro w s
  rw [exec_setWaveform, State.onEngine]
  rcases setWaveform_cases w s.toEngineState with ⟨rfl, h⟩ | ⟨rfl, h⟩ | ⟨h0, h1, h⟩
  · exact ⟨fun _ => by rw [h]; rfl, fun hw => absurd hw (by decide), fun hw => absurd hw (by decide)⟩
  · exact ⟨fun hw => absurd hw (by decide), fun _ => by rw [h]; rfl, fun hw => absurd hw (by decide)⟩
  · exact ⟨fun hw => absurd (BitVec.eq_of_toNat_eq hw) h0, fun hw => absurd (BitVec.eq_of_toNat_eq hw) h1,
      fun _ => by rw [h]⟩

end Sys2Proof.Machine
end

section
/-! PROOFS. The step clock (46_environment.md R237, R238): the length of a step and its bounds, the length as
a number for every build, and the count of one more sample. -/

namespace Sys2Proof

@[simp] theorem F32.ofNat_four : F32.ofNat 4 = 0x40800000#32 := by decide +kernel
@[simp] theorem F32.ofNat_sixty : F32.ofNat 60 = 0x42700000#32 := by decide +kernel

theorem F32.isNaN_ofNat (n : Nat) : F32.isNaN (F32.ofNat n) = false :=
  F32.isNaN_pack false (F32.roundNearest_le _ _)

theorem F32.isNaN_of_isInf {x : F32} (h : F32.isInf x = true) : F32.isNaN x = false := by
  rw [F32.isInf_iff] at h
  exact decide_eq_false h.not_gt

/-- What is no NaN is finite or an infinity. -/
theorem F32.isFinite_or_isInf {x : F32} (h : F32.isNaN x = false) :
    F32.isFinite x = true ∨ F32.isInf x = true := by
  rw [← Bool.not_eq_true, F32.isNaN_iff, Nat.not_lt] at h
  rw [F32.isFinite_iff, F32.isInf_iff]
  exact h.lt_or_eq

/-- A finite value that is not zero has a product with every number. -/
theorem F32.isNaN_mul_of_ne_zero {a b : F32} (ha : F32.isFinite a = true) (h0 : F32.toReal a ≠ 0)
    (hb : F32.isNaN b = false) : F32.isNaN (F32.mul a b) = false := by
  rw [Ne, F32.toReal_eq_zero_iff] at h0
  rcases F32.isFinite_or_isInf hb with hfin | hinf
  · exact F32.isNaN_mul ha hfin
  · have hb0 : F32.mag b ≠ 0 := by
      rw [(F32.isInf_iff b).1 hinf]
      decide
    simp [F32.mul, F32.not_isNaN_of_isFinite ha, hb, hinf, h0, hb0, F32.isNaN_pack]

/-- A finite value that is not zero has a quotient by every number. -/
theorem F32.isNaN_div_of_ne_zero {a b : F32} (ha : F32.isFinite a = true) (h0 : F32.toReal a ≠ 0)
    (hb : F32.isNaN b = false) : F32.isNaN (F32.div a b) = false := by
  rw [Ne, F32.toReal_eq_zero_iff] at h0
  simp only [F32.div, F32.not_isNaN_of_isFinite ha, hb, F32.isInf_eq_false_of_isFinite ha, h0,
    Bool.or_self, Bool.false_eq_true, if_false]
  split
  · exact F32.isNaN_pack _ (Nat.zero_le _)
  · split
    · exact F32.isNaN_pack _ le_rfl
    · exact F32.isNaN_pack _ (F32.roundNearest_le _ _)

/-- Counting one more does not lower a finite value, nor does it where the sum overflows. -/
theorem F32.le_add_one_of_isFinite {x : F32} (hx : F32.isFinite x = true) :
    F32.le x (F32.add x 0x3F800000#32) = true := by
  have hone : F32.isFinite 0x3F800000#32 = true := by decide
  have hsum := F32.roundsTo_add hx hone
  rw [F32.toReal_one] at hsum
  rcases hsum with ⟨hfin, -, hnear, -⟩ | ⟨hinf, hover, hsign⟩
  · have hself := hnear x hx
    rw [abs_of_nonpos (a := F32.toReal x - _) (by linarith)] at hself
    exact (F32.le_iff_toReal hx hfin).2 (by linarith [(abs_le.1 hself).1])
  · obtain ⟨hlo, hhi⟩ := abs_lt.1 (F32.abs_toReal_lt hx)
    have hpos : ¬F32.toReal x + 1 < 0 := fun hneg => by
      rw [abs_of_neg hneg] at hover
      linarith
    rw [F32.le_iff, ← F32.toReal_le_toReal, F32.toReal_eq (F32.add _ _),
      Bool.eq_false_of_not_eq_true (mt hsign.1 hpos), (F32.isInf_iff _).1 hinf, F32.scaled_infMag]
    refine ⟨F32.not_isNaN_of_isFinite hx, F32.isNaN_of_isInf hinf, ?_⟩
    norm_num [F32.signFactor] at hhi ⊢
    linarith

/-- Counting one more does not lower a number, an infinity included. -/
theorem F32.le_add_one {x : F32} (h : F32.isNaN x = false) :
    F32.le x (F32.add x 0x3F800000#32) = true := by
  rcases F32.isFinite_or_isInf h with hfin | hinf
  · exact F32.le_add_one_of_isFinite hfin
  · have hadd : F32.add x 0x3F800000#32 = x := by
      simp [F32.add, h, hinf, F32.not_isNaN_of_isFinite, F32.isInf_eq_false_of_isFinite,
        show F32.isFinite 0x3F800000#32 = true by decide]
    rw [hadd]
    exact F32.le_refl h

end Sys2Proof

namespace Sys2Proof.Machine

/-! ### The length of a step (R237) -/

/-- R237 in binary32. -/
theorem stepLength_hardware (n : Nat) (sr tempo : F32) :
    stepLength hardware n sr tempo =
      F32.div (F32.mul sr 0x42700000#32) (F32.mul tempo (F32.ofNat n)) := by
  simp only [stepLength, hardware_div, hardware_mul, hardware_ofNat, F32.ofNat_sixty]

theorem toReal_sixty : F32.isFinite 0x42700000#32 = true ∧ F32.toReal 0x42700000#32 = 60 := by
  simpa using F32.toReal_ofNat (n := 60) (by norm_num)

theorem toReal_four : F32.isFinite 0x40800000#32 = true ∧ F32.toReal 0x40800000#32 = 4 := by
  simpa using F32.toReal_ofNat (n := 4) (by norm_num)

theorem toReal_twoHundred : F32.toReal 0x43480000#32 = 200 := by
  rw [F32.toReal_of_toInt (z := 200 * 2 ^ 149) (by decide +kernel)]
  norm_num

/-- The tempos that R237 gives bounds for. -/
theorem tempo_between {tempo : F32} (hlo : F32.le 0x42700000#32 tempo = true)
    (hhi : F32.le tempo 0x43480000#32 = true) : F32.Between 60 200 tempo := by
  have h := (F32.between_iff toReal_sixty.1 (by decide)).2 ⟨hlo, hhi⟩
  rwa [toReal_sixty.2, toReal_twoHundred] at h

/-- The number of samples in a minute. -/
theorem samplesPerMinute_between {sr : F32} (hsr : sampleRateAdmitted sr = true) :
    F32.Between 480000 11520000 (F32.mul sr 0x42700000#32) := by
  have hsr := sampleRateAdmitted_iff.1 hsr
  have hlo : F32.Representable (480000 : Nat) := F32.representable_natCast (by norm_num)
  have hhi : F32.Representable (11520000 : Nat) := F32.representable_natCast (by norm_num)
  have hprod := (F32.roundsTo_mul hsr.finite toReal_sixty.1).between hlo hhi
    (by rw [toReal_sixty.2]; push_cast; linarith [hsr.lower])
    (by rw [toReal_sixty.2]; push_cast; linarith [hsr.upper])
  exact_mod_cast hprod

/-- R237: with four steps in a beat, a step is at least 600 and at most 48000 samples long. -/
theorem stepLength_between {sr tempo : F32} (hsr : sampleRateAdmitted sr = true)
    (htempo : F32.Between 60 200 tempo) :
    F32.Between 600 48000 (stepLength hardware 4 sr tempo) := by
  have hminute := samplesPerMinute_between hsr
  have hsteps : F32.Between (240 : Nat) (800 : Nat) (F32.mul tempo 0x40800000#32) := by
    refine (F32.roundsTo_mul htempo.finite toReal_four.1).between
      (F32.representable_natCast (by norm_num)) (F32.representable_natCast (by norm_num)) ?_ ?_ <;>
      rw [toReal_four.2] <;> push_cast
    · linarith [htempo.lower]
    · linarith [htempo.upper]
  push_cast at hsteps
  have hpos : 0 < F32.toReal (F32.mul tempo 0x40800000#32) := by linarith [hsteps.lower]
  have hlo : F32.Representable (600 : Nat) := F32.representable_natCast (by norm_num)
  have hhi : F32.Representable (48000 : Nat) := F32.representable_natCast (by norm_num)
  rw [stepLength_hardware, F32.ofNat_four]
  have hquot := (F32.roundsTo_div hminute.finite hsteps.finite hpos.ne').between hlo hhi
    ((le_div_iff₀ hpos).2 (by push_cast; linarith [hminute.lower, hsteps.upper]))
    ((div_le_iff₀ hpos).2 (by push_cast; linarith [hminute.upper, hsteps.lower]))
  exact_mod_cast hquot

/-- The length of a step is a number for every admitted rate and legal tempo, however many steps a beat
has (log 8). -/
theorem isNaN_stepLength (n : Nat) {sr tempo : F32} (hsr : sampleRateAdmitted sr = true)
    (htempo : F32.Between 60 200 tempo) : F32.isNaN (stepLength hardware n sr tempo) = false := by
  have hminute := samplesPerMinute_between hsr
  rw [stepLength_hardware]
  exact F32.isNaN_div_of_ne_zero hminute.finite (by linarith [hminute.lower])
    (F32.isNaN_mul_of_ne_zero htempo.finite (by linarith [htempo.lower]) (F32.isNaN_ofNat n))

/-- Settles O50: the formula, the bounds by rounding monotonically, and the listed lengths evaluated. -/
theorem stepLengthLiesBetween600And48000 : Obligations.StepLengthLiesBetween600And48000 := by
  refine ⟨stepLength_hardware, F32.ofNat_four, fun sr tempo hsr hlo hhi => ?_, fun k hk => ?_,
    by decide +kernel, by decide +kernel, by decide +kernel, by decide +kernel, by decide +kernel⟩
  · obtain ⟨hfin, hlower, hupper⟩ := stepLength_between hsr (tempo_between hlo hhi)
    exact ⟨hfin, hlower, hupper⟩
  · obtain ⟨hfin, hk'⟩ := F32.toReal_ofNat (n := k) (by omega)
    have hrep : F32.Representable (k * 60 : Nat) := F32.representable_natCast (by omega)
    have hprod := F32.roundsTo_mul hfin toReal_sixty.1
    rw [hk', toReal_sixty.2] at hprod
    exact (hprod.toReal_eq (by exact_mod_cast hrep)).2

end Sys2Proof.Machine
end

section
/-! PROOFS. `TICK` without and with a step event (46_environment.md R238, R248, 47_mixer.md R270). -/

namespace Sys2Proof.Machine

/-! ### The sequencer's count in binary32 (R238, R252) -/

theorem countSample_hardware (x : F32) : countSample hardware x = F32.add x 0x3F800000#32 := by
  rw [countSample, hardware_add, hardware_one]

theorem stepDue_hardware (x length : F32) : stepDue hardware x length = F32.le length x := rfl

/-- R252: with `SEQ_CARRY` the count restarts from the overshoot, but not at the first event. -/
theorem restartCount_hardware (carry : Bool) (k : BitVec 5) (x length : F32) :
    restartCount hardware carry (k == BitVec.ofInt 5 (-1)) x length =
      if carry = true ∧ k.toInt ≠ -1 then F32.sub x length else 0x00000000#32 := by
  have hstart : (k == BitVec.ofInt 5 (-1)) = decide (k.toInt = -1) := by
    rw [Bool.eq_iff_iff, beq_iff_eq, decide_eq_true_iff]
    exact ⟨fun h => by rw [h]; decide, fun h => BitVec.eq_of_toInt_eq (by rw [h]; decide)⟩
  rw [restartCount, hstart]
  simp

section SeqTick

variable {p : Params F32} {tempo : F32} {q : SeqRegs F32}

/-- No step event while stopped, or while the count plus one is below the length (R238). -/
theorem seqTick_of_not_due
    (h : q.running = false ∨
      F32.le q.samplesPerStep (F32.add q.samplesIntoStep 0x3F800000#32) = false) :
    seqTick hardware p tempo q =
      (none, if q.running = true then countedSeq hardware q else q) := by
  rcases seqTick_cases hardware p tempo q with ⟨hr, ht⟩ | ⟨hr, -, ht⟩ | ⟨hr, hd, -⟩
  · rw [ht, hr, if_neg (by decide)]
  · rw [ht, if_pos hr]
  · rw [countSample_hardware, stepDue_hardware] at hd
    simp [hr, hd] at h

/-- A step event while running with the count plus one at the length or above (R238). -/
theorem seqTick_of_due (hr : q.running = true)
    (hd : F32.le q.samplesPerStep (F32.add q.samplesIntoStep 0x3F800000#32) = true) :
    seqTick hardware p tempo q =
      (some (nextStep p.steps q.currentStep), eventSeq hardware p tempo (countedSeq hardware q)) := by
  rcases seqTick_cases hardware p tempo q with ⟨hr', -⟩ | ⟨-, hd', -⟩ | ⟨-, -, ht⟩
  · rw [hr] at hr'
    cases hr'
  · rw [countSample_hardware, stepDue_hardware, hd] at hd'
    cases hd'
  · exact ht

/-- The registers after the count, in binary32. -/
theorem countedSeq_hardware (q : SeqRegs F32) :
    countedSeq hardware q =
      { q with samplesIntoStep := F32.add q.samplesIntoStep 0x3F800000#32 } := by
  rw [countedSeq, countSample_hardware]

/-- The registers after a step event of a running sequencer, in binary32. -/
theorem eventSeq_hardware (hr : q.running = true) :
    eventSeq hardware p tempo (countedSeq hardware q) =
      { running := true
        currentStep := (nextStep p.steps q.currentStep).setWidth 5
        samplesPerStep :=
          F32.div (F32.mul p.tuning.sr 0x42700000#32) (F32.mul tempo (F32.ofNat p.stepsPerBeat))
        samplesIntoStep :=
          if p.seqCarry = true ∧ q.currentStep.toInt ≠ -1 then
            F32.sub (F32.add q.samplesIntoStep 0x3F800000#32) q.samplesPerStep
          else 0x00000000#32
        synthStepChanged := true
        drumStepChanged := true } := by
  simp only [eventSeq, markStepChanged, countedSeq_hardware, restartCount_hardware,
    stepLength_hardware, hr]

end SeqTick

/-! ### The triggers and the note (R233, R248) -/

@[simp] theorem tickWith_trig {α : Type} (N : NumSys α) (oracle : DrumOracle α) (e : EngineState α) :
    (tickWith N oracle e).trig = (sequence N e).1 := by
  rw [tickWith_eq_emit]; rfl

/-- With a step event the triggers are the bits of the step's drum entry (R248). -/
theorem sequence_trig_of_some {α : Type} (N : NumSys α) (e : EngineState α) {k : BitVec 4}
    (h : (seqTick N e.params e.cr.tempoBpm e.seq).1 = some k) :
    (sequence N e).1 = trigBits (e.readDrumStep k) := by
  rcases sequence_cases N e with ⟨q, hq, -⟩ | ⟨i, q, hq, hs⟩
  · rw [hq] at h
    cases h
  · obtain rfl : i = k := by rw [hq] at h; exact Option.some.inj h
    rw [hs]

/-- R233: kick, snare, closed and open hat from bit 0 up. -/
theorem trigBits_getLsbD (d : DrumStep) :
    (trigBits d).getLsbD 0 = d.kick ∧ (trigBits d).getLsbD 1 = d.snare ∧
      (trigBits d).getLsbD 2 = d.chh ∧ (trigBits d).getLsbD 3 = d.ohh := by
  obtain ⟨kick, snare, chh, ohh⟩ := d
  revert kick snare chh ohh
  decide

/-- The note of a synth entry is within the ROM already. -/
theorem clampNote_setWidth (m : BitVec 7) : clampNote (m.setWidth 8) = m := by
  apply BitVec.eq_of_toNat_eq
  have hm := m.isLt
  rw [toNat_clampNote, BitVec.toNat_setWidth]
  omega

/-- `STEPS` is 1 to 16 (log 8). -/
theorem steps_bounds {α : Type} (p : Params α) : 0 < p.steps ∧ p.steps ≤ 16 :=
  ⟨Nat.succ_pos _, p.lastStep.isLt⟩

/-- Settles O25: SEQ only counts, so the voice is rendered as it was and no trigger is raised. -/
theorem tickWithoutStepEventOnlyCounts : Obligations.TickWithoutStepEventOnlyCounts := by
  intro s h
  have htick := seqTick_of_not_due (p := s.params) (tempo := s.cr.tempoBpm) h
  have hsequence := sequence_of_none hardware s.toEngineState (congrArg Prod.fst htick)
  refine ⟨_, exec_tick s, ?_, ?_, ?_, ?_, fun d rest hd trig => by rw [State.drumOracle, hd]⟩
  all_goals simp only [State.sampleDone_toEngineState, State.onEngine_toEngineState]
  · rw [tickWith_seq, htick, countedSeq_hardware]
  · rw [tickWith_trig, hsequence]
  · rw [tickWith_voice, hsequence, EngineState.setSeq_voice]
  · rw [tickWith_out, hsequence, EngineState.setSeq_voice]

/-- Settles O26: SEQ makes the event of the next step, which is dispatched before the render. -/
theorem tickWithStepEventAdvancesAndDispatches : Obligations.TickWithStepEventAdvancesAndDispatches := by
  intro s hr hd
  have htick := seqTick_of_due (p := s.params) (tempo := s.cr.tempoBpm) hr hd
  have hsome := congrArg Prod.fst htick
  have htrig : (afterCommand .tick s).trig =
      trigBits (s.readDrumStep (nextStep s.params.steps s.seq.currentStep)) :=
    (tickWith_trig _ _ _).trans (sequence_trig_of_some hardware s.toEngineState hsome)
  obtain ⟨hkick, hsnare, hchh, hohh⟩ :=
    trigBits_getLsbD (s.readDrumStep (nextStep s.params.steps s.seq.currentStep))
  refine ⟨afterCommand .tick s, nextStep s.params.steps s.seq.currentStep, exec_eq_afterCommand _ s,
    nextStep_toNat (steps_bounds s.params).1 (steps_bounds s.params).2 _, ?_, htrig ▸ hkick,
    htrig ▸ hsnare, htrig ▸ hchh, htrig ▸ hohh, (sequence hardware s.toEngineState).2.voice,
    sequence_voice_of_some hardware s.toEngineState hsome, ?_, ?_⟩
  all_goals simp only [afterCommand_tick]
  · rw [tickWith_seq, htick, eventSeq_hardware hr]
  · rw [tickWith_voice]
  · rw [tickWith_out, tickWith_trig]

end Sys2Proof.Machine
end

section
/-! PROOFS. `START` and `STOP` (46_environment.md R239, R240), and the `TICK` after a `START`. -/

namespace Sys2Proof.Machine

/-! ### START (R239) -/

/-- The state a `START` leaves. -/
theorem afterCommand_start (s : State) :
    afterCommand .start s =
      { s with
        seq := { s.seq with
          running := true
          currentStep := 0x1F#5
          samplesPerStep := stepLength hardware s.params.stepsPerBeat s.params.tuning.sr s.cr.tempoBpm
          samplesIntoStep :=
            stepLength hardware s.params.stepsPerBeat s.params.tuning.sr s.cr.tempoBpm } } := rfl

/-- From a count that stands at the length of its step, as `START` leaves it, the next `TICK` makes a step
event (R239). -/
theorem seqTick_of_full {p : Params F32} {tempo : F32} {q : SeqRegs F32} (hr : q.running = true)
    (hfull : q.samplesIntoStep = q.samplesPerStep) (hn : F32.isNaN q.samplesPerStep = false) :
    seqTick hardware p tempo q =
      (some (nextStep p.steps q.currentStep), eventSeq hardware p tempo (countedSeq hardware q)) :=
  seqTick_of_due hr (by rw [hfull]; exact F32.le_add_one hn)

/-- The step after -1 is step 0, however many steps there are. -/
theorem nextStep_start (steps : Nat) : nextStep steps 0x1F#5 = 0#4 := by
  have hstart : (0x1F#5).toInt + 1 = 0 := by decide
  rw [nextStep, hstart, Int.zero_emod]
  rfl

/-- Settles O18: the count stands at the length, so the `TICK` makes the event of the step after -1. -/
theorem startRewindsAndTheNextTickPlaysStepZero :
    Obligations.StartRewindsAndTheNextTickPlaysStepZero := by
  intro s sps
  have hsps : stepLength hardware s.params.stepsPerBeat s.params.tuning.sr s.cr.tempoBpm = sps :=
    stepLength_hardware _ _ _
  have hstart := afterCommand_start s
  rw [hsps] at hstart
  refine ⟨(exec_eq_afterCommand _ s).trans (congrArg _ hstart), rfl, fun hnan => ?_⟩
  have htick := seqTick_of_full (p := s.params) (tempo := s.cr.tempoBpm) (q := (afterCommand .start s).seq)
    (by rw [hstart]) (by rw [hstart]) (by rw [hstart]; exact hnan)
  have hsome := congrArg Prod.fst htick
  have hrewound : (afterCommand .start s).seq.currentStep = 0x1F#5 := rfl
  have hzero : nextStep s.params.steps (afterCommand .start s).seq.currentStep = 0#4 :=
    hrewound ▸ nextStep_start _
  rw [hzero] at hsome
  refine ⟨_, exec_eq_afterCommand _ _, ?_, ?_, ?_⟩
  all_goals rw [afterCommand_tick]
  · refine (tickWith_seq _ _ _).trans ((congrArg Prod.snd htick).trans ?_)
    rw [eventSeq_hardware (by rw [hstart]), hzero, hrewound, if_neg fun h => h.2 (by decide)]
    rfl
  · exact (tickWith_trig _ _ _).trans (sequence_trig_of_some hardware _ hsome)
  · refine (tickWith_voice _ _ _).trans ?_
    rw [sequence_voice_of_some hardware _ hsome, clampNote_setWidth]
    rfl

/-! ### STOP (R240) -/

/-- A stopped sequencer in a legal state stands at -1 (R47). -/
theorem currentStep_of_stopped {q : SeqRegs F32} (hq : seqOk q = true) (hr : q.running = false) :
    q.currentStep = 0x1F#5 := by
  rw [seqOk, hr, Bool.false_or, Bool.and_eq_true, beq_iff_eq] at hq
  exact hq.2

/-- Settles O19: in a legal stopped state `running` and `current_step` have the values `STOP` writes. -/
theorem stopReleasesAndRewinds : Obligations.StopReleasesAndRewinds := by
  refine ⟨exec_stop, fun s hq hr => ?_⟩
  have hkeep : ({ s.seq with running := false, currentStep := 0x1F#5 } : SeqRegs F32) = s.seq := by
    rw [← hr, ← currentStep_of_stopped hq hr]
  calc exec .stop s
    _ = .next { s with
          seq := { s.seq with running := false, currentStep := 0x1F#5 }
          voice := { s.voice with gate := false } } := exec_stop s
    _ = .next { s with voice := { s.voice with gate := false } } := by rw [hkeep]

end Sys2Proof.Machine
end

section
/-! PROOFS. The series of step events at a constant tempo (46_environment.md R251). Between two events the
count is a whole number below `2^24`, so that counting is exact; the event falls in the `TICK` whose count
first reaches the step's length, and the count starts again from zero. -/

namespace Sys2Proof.Machine

/-! ### Streams of TICKs -/

theorem performCommand_tick_params (s : State) : (performCommand .tick s).params = s.params :=
  tickWith_params _ _ _

theorem performCommand_tick_cr (s : State) : (performCommand .tick s).cr = s.cr := tickWith_cr _ _ _

theorem performCommand_tick_seq (s : State) :
    (performCommand .tick s).seq = (seqTick hardware s.params s.cr.tempoBpm s.seq).2 :=
  tickWith_seq _ _ _

theorem stepEvents_processBuffer_succ (n : Nat) (s : State) :
    stepEvents (processBuffer (n + 1)) s =
      (seqTick hardware s.params s.cr.tempoBpm s.seq).1.toList ++
        stepEvents (processBuffer n) (performCommand .tick s) := rfl

/-! ### The steps in turn (R238) -/

/-- Step `k + 1` follows step `k`, both modulo the number of steps. -/
theorem nextStep_ofNat_mod {steps : Nat} (h : 0 < steps ∧ steps ≤ 16) (k : Nat) :
    nextStep steps ((BitVec.ofNat 4 (k % steps)).setWidth 5) = BitVec.ofNat 4 ((k + 1) % steps) := by
  have hlt := Nat.mod_lt k h.1
  have hstep : ((BitVec.ofNat 4 (k % steps)).setWidth 5).toInt = (k % steps : Nat) := by
    rw [BitVec.toInt_setWidth, BitVec.toNat_ofNat, Nat.mod_eq_of_lt (by omega)]
    exact Int.bmod_eq_of_le (by omega) (by omega)
  rw [nextStep, hstep, ← Nat.cast_succ, ← Int.natCast_mod, Nat.succ_eq_add_one, Nat.mod_add_mod]
  exact BitVec.ofInt_natCast _ _

section Counting

/-- R251's `L`: the least whole number not below the length of a step. -/
noncomputable def wholeStepLength (p : Params F32) (tempo : F32) : Nat :=
  ⌈F32.toReal (stepLength hardware p.stepsPerBeat p.tuning.sr tempo)⌉₊

/-- The sequencer `j` samples into a step of the tempo's length, step `k` (modulo `STEPS`) being next. -/
structure Counting (p : Params F32) (tempo : F32) (j k : Nat) (q : SeqRegs F32) : Prop where
  running : q.running = true
  length : q.samplesPerStep = stepLength hardware p.stepsPerBeat p.tuning.sr tempo
  finite : F32.isFinite q.samplesIntoStep = true
  count : F32.toReal q.samplesIntoStep = j
  next : nextStep p.steps q.currentStep = BitVec.ofNat 4 (k % p.steps)

variable {p : Params F32} {tempo : F32} {j k : Nat} {q : SeqRegs F32}

/-- Counting one more sample is exact below `2^24`. -/
theorem Counting.add_one (h : Counting p tempo j k q) (hj : j + 1 < 2 ^ 24) :
    F32.isFinite (F32.add q.samplesIntoStep 0x3F800000#32) = true ∧
      F32.toReal (F32.add q.samplesIntoStep 0x3F800000#32) = (j + 1 : Nat) := by
  have hsum := F32.roundsTo_add h.finite isFinite_one
  rw [h.count, F32.toReal_one] at hsum
  rw [Nat.cast_add, Nat.cast_one]
  exact hsum.toReal_eq (by exact_mod_cast F32.representable_natCast hj)

/-- The count reaches the length of the step when it reaches the least whole number not below it. -/
theorem Counting.due_iff (h : Counting p tempo j k q)
    (hfin : F32.isFinite (stepLength hardware p.stepsPerBeat p.tuning.sr tempo) = true)
    (hj : j + 1 < 2 ^ 24) :
    F32.le q.samplesPerStep (F32.add q.samplesIntoStep 0x3F800000#32) = true ↔
      wholeStepLength p tempo ≤ j + 1 := by
  obtain ⟨hsum, hcount⟩ := h.add_one hj
  rw [h.length, F32.le_iff_toReal hfin hsum, hcount, wholeStepLength, Nat.ceil_le]

/-- Short of the step's length a `TICK` counts (R238). -/
theorem Counting.tick_of_lt (h : Counting p tempo j k q)
    (hfin : F32.isFinite (stepLength hardware p.stepsPerBeat p.tuning.sr tempo) = true)
    (hj : j + 1 < 2 ^ 24) (hlt : j + 1 < wholeStepLength p tempo) :
    (seqTick hardware p tempo q).1 = none ∧
      Counting p tempo (j + 1) k (seqTick hardware p tempo q).2 := by
  obtain ⟨hsum, hcount⟩ := h.add_one hj
  have hnot := mt (h.due_iff hfin hj).1 hlt.not_ge
  rw [seqTick_of_not_due (.inr (Bool.eq_false_of_not_eq_true hnot)), if_pos h.running, countedSeq_hardware]
  exact ⟨rfl, h.running, h.length, hsum, hcount, h.next⟩

/-- A step event, without `SEQ_CARRY`, starts the count of the next step from zero (R238, R252). -/
theorem counting_of_event (hcarry : p.seqCarry = false) (hr : q.running = true)
    (hnext : nextStep p.steps q.currentStep = BitVec.ofNat 4 (k % p.steps))
    (htick : seqTick hardware p tempo q =
      (some (nextStep p.steps q.currentStep), eventSeq hardware p tempo (countedSeq hardware q))) :
    (seqTick hardware p tempo q).1 = some (BitVec.ofNat 4 (k % p.steps)) ∧
      Counting p tempo 0 (k + 1) (seqTick hardware p tempo q).2 := by
  rw [htick, eventSeq_hardware hr, hnext, if_neg (by rw [hcarry]; exact fun h => Bool.noConfusion h.1)]
  exact ⟨rfl, rfl, (stepLength_hardware _ _ _).symm, isFinite_zero, by simp,
    nextStep_ofNat_mod (steps_bounds p) k⟩

/-- At the step's length a `TICK` makes the event of the next step. -/
theorem Counting.tick_of_eq (h : Counting p tempo j k q) (hcarry : p.seqCarry = false)
    (hfin : F32.isFinite (stepLength hardware p.stepsPerBeat p.tuning.sr tempo) = true)
    (hj : j + 1 < 2 ^ 24) (heq : j + 1 = wholeStepLength p tempo) :
    (seqTick hardware p tempo q).1 = some (BitVec.ofNat 4 (k % p.steps)) ∧
      Counting p tempo 0 (k + 1) (seqTick hardware p tempo q).2 :=
  counting_of_event hcarry h.running h.next (seqTick_of_due h.running ((h.due_iff hfin hj).2 heq.ge))

end Counting

/-! ### The series (R251) -/

/-- The indices of `m` steps in turn from step `k` on, modulo `STEPS` (log 8). -/
def stepsFrom (steps k m : Nat) : List (BitVec 4) :=
  (List.range m).map fun i => BitVec.ofNat 4 ((k + i) % steps)

theorem stepsFrom_succ (steps k m : Nat) :
    stepsFrom steps k (m + 1) = BitVec.ofNat 4 (k % steps) :: stepsFrom steps (k + 1) m := by
  simp [stepsFrom, List.range_succ_eq_map, Function.comp_def, Nat.add_assoc, Nat.add_comm 1]

/-- The events of `n` `TICK`s from `j` samples into a step on: one for each time that the count reaches the
whole step length. -/
theorem stepEvents_of_counting {p : Params F32} {tempo : F32} (hcarry : p.seqCarry = false)
    (hfin : F32.isFinite (stepLength hardware p.stepsPerBeat p.tuning.sr tempo) = true)
    (hsmall : wholeStepLength p tempo < 2 ^ 24) (n : Nat) {j k : Nat} {s : State}
    (hp : s.params = p) (ht : s.cr.tempoBpm = tempo) (hj : j < wholeStepLength p tempo)
    (h : Counting p tempo j k s.seq) :
    stepEvents (processBuffer n) s = stepsFrom p.steps k ((n + j) / wholeStepLength p tempo) := by
  induction n generalizing j k s with
  | zero =>
    rw [Nat.zero_add, Nat.div_eq_of_lt hj]
    rfl
  | succ n ih =>
    have hp' := (performCommand_tick_params s).trans hp
    have ht' := (congrArg ConfigRegs.tempoBpm (performCommand_tick_cr s)).trans ht
    have hseq := performCommand_tick_seq s
    rw [stepEvents_processBuffer_succ]
    rw [hp, ht] at hseq ⊢
    rcases Nat.lt_or_eq_of_le (Nat.succ_le_of_lt hj) with hlt | heq
    · obtain ⟨hnone, hcounting⟩ := h.tick_of_lt hfin (by omega) hlt
      rw [hnone, ih hp' ht' hlt (hseq ▸ hcounting), Nat.succ_add_eq_add_succ]
      rfl
    · obtain ⟨hsome, hcounting⟩ := h.tick_of_eq hcarry hfin (by omega) heq
      have hpos : 0 < wholeStepLength p tempo := by omega
      rw [hsome, ih hp' ht' hpos (hseq ▸ hcounting), Nat.succ_add_eq_add_succ, heq,
        Nat.add_div_right n hpos, stepsFrom_succ]
      rfl

/-- R251: the events of the first `n` `TICK`s after a `START`. -/
theorem stepEvents_after_start (s : State) (n : Nat) (hsr : sampleRateAdmitted s.params.tuning.sr = true)
    (htempo : F32.Between 60 200 s.cr.tempoBpm) (hcarry : s.params.seqCarry = false)
    (hbeat : s.params.stepsPerBeat = 4) :
    stepEvents (processBuffer n) (afterCommand .start s) =
      stepsFrom s.params.steps 0 ((n + wholeStepLength s.params s.cr.tempoBpm - 1) /
        wholeStepLength s.params s.cr.tempoBpm) := by
  have hlen := stepLength_between hsr htempo
  rw [← hbeat] at hlen
  have hpos : 0 < wholeStepLength s.params s.cr.tempoBpm := Nat.ceil_pos.2 (by linarith [hlen.lower])
  have hsmall : wholeStepLength s.params s.cr.tempoBpm ≤ 48000 :=
    Nat.ceil_le.2 (by exact_mod_cast hlen.upper)
  cases n with
  | zero =>
    rw [Nat.zero_add, Nat.div_eq_of_lt (by omega)]
    rfl
  | succ n =>
    obtain ⟨hsome, hcounting⟩ := counting_of_event (k := 0) hcarry rfl
      ((nextStep_start _).trans (by rw [Nat.zero_mod]))
      (seqTick_of_full (tempo := s.cr.tempoBpm) (q := (afterCommand .start s).seq) rfl rfl
        (F32.not_isNaN_of_isFinite hlen.finite))
    have hrest := stepEvents_of_counting hcarry hlen.finite (by omega) n
      (s := performCommand .tick (afterCommand .start s)) (performCommand_tick_params _)
      (congrArg ConfigRegs.tempoBpm (performCommand_tick_cr _)) hpos
      ((performCommand_tick_seq (afterCommand .start s)).symm ▸ hcounting)
    rw [Nat.add_right_comm, Nat.add_sub_cancel, Nat.add_div_right n hpos, stepsFrom_succ,
      stepEvents_processBuffer_succ, hrest]
    exact congrArg (·.toList ++ _) hsome

/-- Settles O51: the event at `START`, then one for every whole step length. -/
theorem stepsFallOnMultiplesOfTheirLength : Obligations.StepsFallOnMultiplesOfTheirLength := by
  refine ⟨fun s n hsr hlo hhi hcarry hbeat => ?_, ?_⟩
  · have h := stepEvents_after_start s n hsr (tempo_between hlo hhi) hcarry hbeat
    rw [wholeStepLength, hbeat] at h
    simpa only [stepsFrom, Nat.zero_add] using h
  · have hlength : stepLength hardware 4 0x472C4400#32 0x42F00000#32 = 0x45AC4400#32 := by
      decide +kernel
    rw [hlength, F32.toReal_of_toInt (z := 11025 * 2 ^ 148) (by decide +kernel), Nat.ceil_eq_iff] <;>
      norm_num

end Sys2Proof.Machine
end

section
/-! PROOFS. Writes of the pattern memories (46_environment.md R242, R243), and that a `TICK` reads of the
patterns only the entries that it dispatches (R249). -/

namespace Sys2Proof.Machine

/-! ### A write of one entry (R242, R243, R62) -/

/-- A write of `PAT_S` changes nothing else. -/
theorem writeSynthStep_frame {α : Type} (i : BitVec 8) (x : SynthStep) (e : EngineState α) :
    writeSynthStep i x e = { e with patS := (writeSynthStep i x e).patS } := by
  rcases writeSynthStep_cases i x e with ⟨_, h⟩ | ⟨-, h⟩ <;> rw [h]

/-- A write of `PAT_D` changes nothing else. -/
theorem writeDrumStep_frame {α : Type} (i : BitVec 8) (x : DrumStep) (e : EngineState α) :
    writeDrumStep i x e = { e with patD := (writeDrumStep i x e).patD } := by
  rcases writeDrumStep_cases i x e with ⟨_, h⟩ | ⟨-, h⟩ <;> rw [h]

theorem writeSynthStep_of_le {α : Type} {i : BitVec 8} (hi : 16 ≤ i.toNat) (x : SynthStep)
    (e : EngineState α) : writeSynthStep i x e = e := dif_neg hi.not_gt

theorem writeDrumStep_of_le {α : Type} {i : BitVec 8} (hi : 16 ≤ i.toNat) (x : DrumStep)
    (e : EngineState α) : writeDrumStep i x e = e := dif_neg hi.not_gt

/-- What a write makes of `PAT_S` depends on `PAT_S` alone. -/
theorem writeSynthStep_patS_congr {α : Type} (i : BitVec 8) (x : SynthStep) {e e' : EngineState α}
    (h : e.patS = e'.patS) : (writeSynthStep i x e).patS = (writeSynthStep i x e').patS := by
  unfold writeSynthStep
  split
  · next hi => exact congrArg (fun m => m.set i.toNat x hi) h
  · exact h

/-- What a write makes of `PAT_D` depends on `PAT_D` alone. -/
theorem writeDrumStep_patD_congr {α : Type} (i : BitVec 8) (x : DrumStep) {e e' : EngineState α}
    (h : e.patD = e'.patD) : (writeDrumStep i x e).patD = (writeDrumStep i x e').patD := by
  unfold writeDrumStep
  split
  · next hi => exact congrArg (fun m => m.set i.toNat x hi) h
  · exact h

/-- Settles O20: the read after the write, its frame, and the index out of range. -/
theorem setSynthStepWritesOneWholeEntry : Obligations.SetSynthStepWritesOneWholeEntry := by
  intro i note accent slide active s
  refine ⟨fun _ => ⟨_, exec_setSynthStep i note accent slide active s, fun j => ?_, ?_⟩, fun hi => ?_⟩
  · rw [State.onEngine_toEngineState, readSynthStep_write, clampNote]
    simp only [eq_comm (a := i.toNat)]
  · exact congrArg (fun e => { s with toEngineState := e }) (writeSynthStep_frame i _ s.toEngineState)
  · rw [exec_setSynthStep, State.onEngine, writeSynthStep_of_le hi]

/-- Settles O21, as for the synth pattern. -/
theorem setDrumStepWritesOneWholeEntry : Obligations.SetDrumStepWritesOneWholeEntry := by
  intro i kick snare closedHh openHh s
  refine ⟨fun _ => ⟨_, exec_setDrumStep i kick snare closedHh openHh s, fun j => ?_, ?_⟩, fun hi => ?_⟩
  · rw [State.onEngine_toEngineState, readDrumStep_write]
    simp only [eq_comm (a := i.toNat)]
  · exact congrArg (fun e => { s with toEngineState := e }) (writeDrumStep_frame i _ s.toEngineState)
  · rw [exec_setDrumStep, State.onEngine, writeDrumStep_of_le hi]

/-! ### A `TICK` with other patterns (R249) -/

section Patterns

variable {α : Type} (N : NumSys α) (e : EngineState α)

/-- The state with other pattern memories. -/
def EngineState.withPatterns (e : EngineState α) (m : Vector SynthStep 16) (d : Vector DrumStep 16) :
    EngineState α := { e with patS := m, patD := d }

/-- Other pattern memories with the same entries at the index that the next `TICK` dispatches, if there
is one. -/
def SameDispatch (m : Vector SynthStep 16) (d : Vector DrumStep 16) : Prop :=
  ∀ k, (seqTick N e.params e.cr.tempoBpm e.seq).1 = some k →
    (e.withPatterns m d).readSynthStep k = e.readSynthStep k ∧
      (e.withPatterns m d).readDrumStep k = e.readDrumStep k

variable {N e} {m : Vector SynthStep 16} {d : Vector DrumStep 16}

/-- The triggers and the note of a `TICK` are those of the dispatched entries (R248). -/
theorem SameDispatch.sequence_eq (h : SameDispatch N e m d) :
    (sequence N (e.withPatterns m d)).1 = (sequence N e).1 ∧
      (sequence N (e.withPatterns m d)).2.voice = (sequence N e).2.voice := by
  cases hev : (seqTick N e.params e.cr.tempoBpm e.seq).1 with
  | none =>
    rw [sequence_of_none N e hev, sequence_of_none N (e.withPatterns m d) hev]
    exact ⟨rfl, rfl⟩
  | some k =>
    obtain ⟨hsynth, hdrum⟩ := h k hev
    rw [sequence_trig_of_some N e hev, sequence_trig_of_some N (e.withPatterns m d) hev,
      sequence_voice_of_some N e hev, sequence_voice_of_some N (e.withPatterns m d) hev, hsynth, hdrum]
    exact ⟨rfl, rfl⟩

/-- A `TICK` carries the pattern memories over and reads no entry but the dispatched ones. -/
theorem SameDispatch.tickWith_eq (h : SameDispatch N e m d) (oracle : DrumOracle α) :
    tickWith N oracle (e.withPatterns m d) = (tickWith N oracle e).withPatterns m d := by
  obtain ⟨htrig, hvoice⟩ := h.sequence_eq
  rw [tickWith_eq_emit, tickWith_eq_emit, htrig, hvoice]
  rfl

/-- A write of an entry of `PAT_S` that is not dispatched commutes with `TICK`. -/
theorem tickWith_writeSynthStep {i : BitVec 8}
    (hi : ∀ k, (seqTick N e.params e.cr.tempoBpm e.seq).1 = some k → k.toNat ≠ i.toNat) (x : SynthStep)
    (oracle : DrumOracle α) :
    tickWith N oracle (writeSynthStep i x e) = writeSynthStep i x (tickWith N oracle e) := by
  have hwrite : writeSynthStep i x e = e.withPatterns (writeSynthStep i x e).patS e.patD :=
    writeSynthStep_frame i x e
  have hsame : SameDispatch N e (writeSynthStep i x e).patS e.patD := fun k hk =>
    ⟨by rw [← hwrite, readSynthStep_write, if_neg (hi k hk).symm], rfl⟩
  rw [hwrite, hsame.tickWith_eq, writeSynthStep_frame i x (tickWith N oracle e),
    writeSynthStep_patS_congr i x (tickWith_patS N e oracle), EngineState.withPatterns,
    ← tickWith_patD N e oracle]

/-- A write of an entry of `PAT_D` that is not dispatched commutes with `TICK`. -/
theorem tickWith_writeDrumStep {i : BitVec 8}
    (hi : ∀ k, (seqTick N e.params e.cr.tempoBpm e.seq).1 = some k → k.toNat ≠ i.toNat) (x : DrumStep)
    (oracle : DrumOracle α) :
    tickWith N oracle (writeDrumStep i x e) = writeDrumStep i x (tickWith N oracle e) := by
  have hwrite : writeDrumStep i x e = e.withPatterns e.patS (writeDrumStep i x e).patD :=
    writeDrumStep_frame i x e
  have hsame : SameDispatch N e e.patS (writeDrumStep i x e).patD := fun k hk =>
    ⟨rfl, by rw [← hwrite, readDrumStep_write, if_neg (hi k hk).symm]⟩
  rw [hwrite, hsame.tickWith_eq, writeDrumStep_frame i x (tickWith N oracle e),
    writeDrumStep_patD_congr i x (tickWith_patD N e oracle), EngineState.withPatterns,
    ← tickWith_patS N e oracle]

end Patterns

/-- What commutes with `TICK` on the groups of R20, and leaves the triggers, commutes with the command. -/
theorem afterCommand_tick_comm {f : EngineState F32 → EngineState F32} {s : State}
    (htrig : ∀ e, (f e).trig = e.trig)
    (h : tickWith hardware s.drumOracle (f s.toEngineState) =
      f (tickWith hardware s.drumOracle s.toEngineState)) :
    afterCommand .tick (s.onEngine f) = (afterCommand .tick s).onEngine f := by
  rw [afterCommand_tick, afterCommand_tick, drumOracle_onEngine]
  simp only [State.onEngine, h, htrig]

/-- Settles O52: the `TICK` reads neither the written entry nor, but for the dispatched one, any other. -/
theorem stepWritesAreIsolated : Obligations.StepWritesAreIsolated := by
  intro i s hi
  refine ⟨fun note accent slide active => ?_, fun kick snare closedHh openHh => ?_⟩
  · exact afterCommand_tick_comm (fun e => by rw [writeSynthStep_frame])
      (tickWith_writeSynthStep hi ⟨clampNote note, accent, slide, active⟩ s.drumOracle)
  · exact afterCommand_tick_comm (fun e => by rw [writeDrumStep_frame])
      (tickWith_writeDrumStep hi ⟨kick, snare, closedHh, openHh⟩ s.drumOracle)

end Sys2Proof.Machine
end

section
/-! PROOFS. The reads of the sequencer (46_environment.md R244 to R247), over one command and over streams of
commands. -/

namespace Sys2Proof.Machine

/-! ### What a stream keeps of the sequencer registers -/

theorem performCommand_effect (i : Instr) (s : State) :
    CommandEffect (s.accept s.port) i (performCommand i s) := afterCommand_effect i _

/-- What every command of a stream keeps of the sequencer registers, the stream keeps. -/
theorem runStream_keeps_seq {P : SeqRegs F32 → Prop} {cs : List Instr}
    (hkeep : ∀ i ∈ cs, ∀ s t : State, CommandEffect s i t → P s.seq → P t.seq) {s : State}
    (hs : P s.seq) : P (runStream cs s).seq := by
  induction cs generalizing s with
  | nil => exact hs
  | cons i cs ih =>
    exact ih (fun i' hi' => hkeep i' (List.mem_cons_of_mem i hi'))
      (hkeep i List.mem_cons_self _ _ (performCommand_effect i s) hs)

/-! ### The step that is read (R244, R245) -/

/-- A step of R33 is -1 or not negative. -/
theorem currentStep_cases (k : BitVec 5) (h : -1 ≤ k.toInt) : k = 0x1F#5 ∨ 0 ≤ k.toInt := by
  revert k
  decide

/-- A step that is not negative is read as 0 to 15. -/
theorem signExtend_toNat_le {k : BitVec 5} (h : 0 ≤ k.toInt) : (k.signExtend 32).toNat ≤ 15 := by
  revert k
  decide

/-- As `START` leaves the sequencer: the next `TICK` makes a step event. -/
structure Armed (q : SeqRegs F32) : Prop where
  running : q.running = true
  full : q.samplesIntoStep = q.samplesPerStep
  number : F32.isNaN q.samplesPerStep = false

section Effects

variable {s t : State} {i : Instr}

/-- No command but `TICK` leaves -1. -/
theorem CommandEffect.keeps_rewound (h : CommandEffect s i t) (hi : i ≠ .tick)
    (hs : s.seq.currentStep = 0x1F#5) : t.seq.currentStep = 0x1F#5 := by
  cases h with
  | tick => exact absurd rfl hi
  | start | stop => rfl
  | _ => exact hs

/-- No command but `START` and `STOP` goes back to -1. -/
theorem CommandEffect.keeps_playing (h : CommandEffect s i t) (hstart : i ≠ .start) (hstop : i ≠ .stop)
    (hs : 0 ≤ s.seq.currentStep.toInt) : 0 ≤ t.seq.currentStep.toInt := by
  cases h with
  | tick =>
    rw [State.sampleDone_toEngineState, State.onEngine_toEngineState, tickWith_seq]
    rcases seqTick_cases hardware s.params s.cr.tempoBpm s.seq with ⟨-, h⟩ | ⟨-, -, h⟩ | ⟨-, -, h⟩ <;>
      rw [h]
    · exact hs
    · exact hs
    · exact (toInt_setWidth_five _).1
  | start => exact absurd rfl hstart
  | stop => exact absurd rfl hstop
  | _ => exact hs

/-- Between a `START` and the next `TICK` other commands do not touch the count. -/
theorem CommandEffect.keeps_armed (h : CommandEffect s i t) (htick : i ≠ .tick) (hstart : i ≠ .start)
    (hstop : i ≠ .stop) (hs : Armed s.seq) : Armed t.seq := by
  cases h with
  | tick => exact absurd rfl htick
  | start => exact absurd rfl hstart
  | stop => exact absurd rfl hstop
  | _ => exact ⟨hs.running, hs.full, hs.number⟩

end Effects

/-- The first `TICK` after a `START` begins a step. -/
theorem playing_of_tick {s : State} (hs : Armed s.seq) :
    0 ≤ (performCommand .tick s).seq.currentStep.toInt := by
  rw [performCommand_tick_seq, seqTick_of_full hs.running hs.full hs.number]
  exact (toInt_setWidth_five _).1

/-- From the first `TICK` on a step plays, until a `STOP` or another `START`. -/
theorem playing_of_armed {cs : List Instr} {s : State} (hs : Armed s.seq) (htick : Instr.tick ∈ cs)
    (hstart : Instr.start ∉ cs) (hstop : Instr.stop ∉ cs) :
    0 ≤ (runStream cs s).seq.currentStep.toInt := by
  induction cs generalizing s with
  | nil => exact absurd htick List.not_mem_nil
  | cons i cs ih =>
    rw [List.mem_cons, not_or] at hstart hstop
    by_cases hi : i = .tick
    · subst hi
      exact runStream_keeps_seq (P := fun q => 0 ≤ q.currentStep.toInt)
        (fun i' hi' _ _ he => he.keeps_playing (fun h => hstart.2 (h ▸ hi')) fun h => hstop.2 (h ▸ hi'))
        (playing_of_tick hs)
    · exact ih ((performCommand_effect i s).keeps_armed hi (Ne.symm hstart.1) (Ne.symm hstop.1) hs)
        ((List.mem_cons.1 htick).resolve_left (Ne.symm hi)) hstart.2 hstop.2

/-- In a legal state `START` latches a length that is a number. -/
theorem armed_of_start {s : State} (hs : stateOk s = true) : Armed (performCommand .start s).seq := by
  obtain ⟨hp, -, hc, -, -⟩ := stateOk_iff.1 hs
  have htempo := configOk_iff.1 hc .tempoBpm
  rw [regOk, Bool.and_eq_true] at htempo
  exact ⟨rfl, rfl, isNaN_stepLength _ (buildOk_iff.1 hp).1 (tempo_between htempo.1 htempo.2)⟩

/-- Settles O22: the register is read sign-extended; it leaves -1 at the first `TICK` after a `START`. -/
theorem stepReadsReturnTheStep : Obligations.StepReadsReturnTheStep := by
  refine ⟨fun s => ⟨exec_getSynthStep s, exec_getDrumStep s, BitVec.toInt_signExtend_of_le (by decide),
    fun hq hr => ?_, fun hq => ?_⟩, fun cs s => ⟨fun htick => ?_, fun hs htick hstart hstop => ?_⟩⟩
  · rw [currentStep_of_stopped hq hr]
    decide
  · rw [seqOk, Bool.and_eq_true, Bool.and_eq_true, decide_eq_true_iff] at hq
    exact (currentStep_cases _ hq.1.1).imp (fun h => by rw [h]; decide) signExtend_toNat_le
  · have hrewound : (runStream (.start :: cs) s).seq.currentStep = 0x1F#5 :=
      runStream_keeps_seq (P := fun q => q.currentStep = 0x1F#5)
        (fun i hi _ _ he => he.keeps_rewound fun h => htick (h ▸ hi)) (s := performCommand .start s) rfl
    rw [hrewound]
    decide
  · exact signExtend_toNat_le
      (playing_of_armed (s := performCommand .start s) (armed_of_start hs) htick hstart hstop)

/-! ### The changed-flags that are read (R246, R247) -/

/-- R88: a flag is read as 1 or 0. -/
theorem flagWord_eq (b : Bool) : flagWord b = if b = true then 1#32 else 0#32 := by
  cases b <;> rfl

/-- A step event depends on the groups of R20 alone. -/
theorem stepEvent_accept (i : Instr) (s : State) (rest : List PortEvent) :
    stepEvent i (s.accept rest) = stepEvent i s := by
  cases i <;> rfl

/-- A flag that a step event sets and no command of a stream clears is set after the stream if it was set
before or the stream made a step event. -/
theorem runStream_flag {flag : SeqRegs F32 → Bool} {cs : List Instr}
    (hflag : ∀ i ∈ cs, ∀ s t : State, CommandEffect s i t →
      flag t.seq = ((stepEvent i s).isSome || flag s.seq)) (s : State) :
    flag (runStream cs s).seq = (flag s.seq || !(stepEvents cs s).isEmpty) := by
  induction cs generalizing s with
  | nil => exact (Bool.or_false _).symm
  | cons i cs ih =>
    have hhead := hflag i List.mem_cons_self _ _ (performCommand_effect i s)
    rw [stepEvent_accept, State.accept_toEngineState] at hhead
    rw [runStream, ih (fun i' hi' => hflag i' (List.mem_cons_of_mem i hi')), hhead, stepEvents]
    cases stepEvent i s with
    | none => rfl
    | some k => simp

/-- Only `SYNTH_STEP_CHANGED` and `DRUM_STEP_CHANGED` have their mnemonics (R90). -/
theorem changedRead_mnemonic {i : Instr} :
    (i.mnemonic = "SYNTH_STEP_CHANGED" → i = .synthStepChanged) ∧
      (i.mnemonic = "DRUM_STEP_CHANGED" → i = .drumStepChanged) := by
  cases i <;> simp [Instr.mnemonic]

/-- Settles O23: the read answers its flag and clears it; over a stream each step event sets it. -/
theorem changedReadsClearTheirOwnFlag : Obligations.ChangedReadsClearTheirOwnFlag := by
  refine ⟨fun s => ⟨?_, ?_⟩, fun s => ⟨rfl, rfl⟩, fun cs s => ⟨fun hread => ?_, fun hread => ?_⟩⟩
  · rw [← flagWord_eq, exec_synthStepChanged]
    rfl
  · rw [← flagWord_eq, exec_drumStepChanged]
    rfl
  · refine runStream_flag (flag := SeqRegs.synthStepChanged) (fun i hi _ _ he => ?_) s
    rw [he.changed.1, if_neg fun h => hread (changedRead_mnemonic.1 h ▸ hi)]
  · refine runStream_flag (flag := SeqRegs.drumStepChanged) (fun i hi _ _ he => ?_) s
    rw [he.changed.2, if_neg fun h => hread (changedRead_mnemonic.2 h ▸ hi)]

end Sys2Proof.Machine
end

section
/-! PROOFS. A product, a sum and a quotient of zeros in binary32 (00_scope.md R8), and what they make of the
voice and of the mixer (45_voice.md R198, 47_mixer.md R281). A gain or an envelope at zero gives a zero or,
beside an infinity or a NaN, a NaN; the limiter answers both with a zero (R272), so silence needs no
premise on the other operands. -/

namespace Sys2Proof.Machine

/-! ### The operations on zeros (R8) -/

/-- What the limiter answers with a zero (R272). -/
def ZeroOrNaN (x : F32) : Prop := isZero x = true ∨ F32.isNaN x = true

theorem isZero_iff {x : F32} : isZero x = true ↔ F32.mag x = 0 := beq_iff_eq

theorem isZero_zero : isZero 0x00000000#32 = true := by decide

theorem isZero_pack_zero (s : Bool) : isZero (F32.pack s 0) = true :=
  isZero_iff.2 (F32.mag_pack s (by norm_num))

theorem zeroOrNaN_nan (op : Nat) (a b : F32) : ZeroOrNaN (F32.nan op a b) := .inr (F32.isNaN_nan op a b)

theorem ZeroOrNaN.mag_eq_zero {x : F32} (h : ZeroOrNaN x) (hn : F32.isNaN x = false) : F32.mag x = 0 :=
  isZero_iff.1 (h.resolve_right (by rw [hn]; decide))

theorem isNaN_eq_false_of_not_or {a b : F32} (h : ¬(F32.isNaN a || F32.isNaN b) = true) :
    F32.isNaN a = false ∧ F32.isNaN b = false := by
  simpa using h

theorem isFinite_of_mag_eq_zero {x : F32} (h : F32.mag x = 0) : F32.isFinite x = true := by
  rw [F32.isFinite_iff, h]
  decide

theorem toInt_of_mag_eq_zero {x : F32} (h : F32.mag x = 0) : F32.toInt x = 0 := by
  simp [F32.toInt, h]

theorem roundNearest_zero_num {den : Nat} (hd : 0 < den) : F32.roundNearest 0 den = 0 := by
  simpa using F32.roundNearest_scaled (m := 0) hd (Nat.zero_le _)

/-- A product with a zero is a zero, or a NaN if the other factor is an infinity or a NaN. -/
theorem zeroOrNaN_mul {a b : F32} (h : ZeroOrNaN a ∨ ZeroOrNaN b) : ZeroOrNaN (F32.mul a b) := by
  unfold F32.mul
  split
  · exact zeroOrNaN_nan 1 a b
  · next hnan =>
    obtain ⟨hna, hnb⟩ := isNaN_eq_false_of_not_or hnan
    have hzero : F32.mag a = 0 ∨ F32.mag b = 0 := h.imp (·.mag_eq_zero hna) (·.mag_eq_zero hnb)
    split
    · exact zeroOrNaN_nan 1 a b
    · have hprod : F32.scaled (F32.mag a) * F32.scaled (F32.mag b) = 0 := by
        rw [Nat.mul_eq_zero, F32.scaled_eq_zero, F32.scaled_eq_zero]
        exact hzero
      rw [hprod, roundNearest_zero_num (by positivity)]
      exact .inl (isZero_pack_zero _)

theorem zeroOrNaN_add {a b : F32} (ha : ZeroOrNaN a) (hb : ZeroOrNaN b) : ZeroOrNaN (F32.add a b) := by
  by_cases hnan : (F32.isNaN a || F32.isNaN b) = true
  · rw [F32.add, if_pos hnan]
    exact zeroOrNaN_nan 0 a b
  · obtain ⟨hna, hnb⟩ := isNaN_eq_false_of_not_or hnan
    have ha := ha.mag_eq_zero hna
    have hb := hb.mag_eq_zero hnb
    rw [F32.add_of_isFinite (isFinite_of_mag_eq_zero ha) (isFinite_of_mag_eq_zero hb),
      toInt_of_mag_eq_zero ha, toInt_of_mag_eq_zero hb, F32.roundSum, if_pos (add_zero 0)]
    exact .inl (isZero_pack_zero _)

/-- A zero divided by anything is a zero, or a NaN if the divisor is a zero or a NaN. -/
theorem zeroOrNaN_div {a : F32} (ha : ZeroOrNaN a) (b : F32) : ZeroOrNaN (F32.div a b) := by
  unfold F32.div
  split
  · exact zeroOrNaN_nan 2 a b
  · next hnan =>
    have ha := ha.mag_eq_zero (isNaN_eq_false_of_not_or hnan).1
    rw [F32.isInf_eq_false_of_isFinite (isFinite_of_mag_eq_zero ha), if_neg (by decide)]
    split
    · exact .inl (isZero_pack_zero _)
    · split
      · exact zeroOrNaN_nan 2 a b
      · next hb =>
        rw [ha, F32.scaled_zero, Nat.zero_mul,
          roundNearest_zero_num (Nat.pos_of_ne_zero (mt F32.scaled_eq_zero.1 hb))]
        exact .inl (isZero_pack_zero _)

/-- TANH-ZERO and TANH-NAN (R10). -/
theorem zeroOrNaN_tanh (split : F32 → Split) {v : F32} (h : ZeroOrNaN v) :
    ZeroOrNaN (F32.tanh split v) := by
  rcases h with h | h
  · rw [F32.tanh_of_mag_eq_zero split (isZero_iff.1 h)]
    exact .inl h
  · rw [F32.tanh, if_pos h]
    exact zeroOrNaN_nan 3 v v

/-! ### The mixer (R271 to R273, R281) -/

/-- R272: a zero is within the limits and passes; a NaN gives `+0.0`. -/
theorem isZero_mixLimit {x : F32} (h : ZeroOrNaN x) : isZero (mixLimit hardware x) = true := by
  rw [mixLimit_hardware]
  split
  · exact isZero_zero
  · next hnan =>
    have hmag := h.mag_eq_zero (Bool.eq_false_of_not_eq_true hnan)
    have hint := toInt_of_mag_eq_zero hmag
    have hbounds : F32.toInt 0xBF800000#32 < 0 ∧ 0 < F32.toInt 0x3F800000#32 := by decide +kernel
    have hlow : ¬F32.lt x 0xBF800000#32 = true := fun hlt => by
      obtain ⟨-, -, hlt⟩ := F32.lt_iff.1 hlt
      omega
    have hhigh : ¬F32.lt 0x3F800000#32 x = true := fun hlt => by
      obtain ⟨-, -, hlt⟩ := F32.lt_iff.1 hlt
      omega
    rw [if_neg hlow, if_neg hhigh]
    exact isZero_iff.2 hmag

theorem zeroOrNaN_drumTerm {x gain master : F32} (h : ZeroOrNaN x ∨ ZeroOrNaN master) :
    ZeroOrNaN (drumTerm hardware x gain master) :=
  zeroOrNaN_mul (h.imp_left fun hx => zeroOrNaN_mul (.inl hx))

/-- R281: the sample is a zero if the voice or its gain is silent, and the drums or their master gain. -/
theorem isZero_mixOut {c : ConfigRegs F32} {v : F32} {d : DrumSamples F32}
    (hv : ZeroOrNaN v ∨ ZeroOrNaN c.synthGain)
    (hd : (ZeroOrNaN d.kick ∧ ZeroOrNaN d.snare ∧ ZeroOrNaN d.hihat) ∨ ZeroOrNaN c.drumMasterGain) :
    isZero (mixOut hardware c v d) = true :=
  isZero_mixLimit
    (zeroOrNaN_add
      (zeroOrNaN_add
        (zeroOrNaN_add (zeroOrNaN_mul hv) (zeroOrNaN_drumTerm (hd.imp_left fun ⟨hkick, _, _⟩ => hkick)))
        (zeroOrNaN_drumTerm (hd.imp_left fun ⟨_, hsnare, _⟩ => hsnare)))
      (zeroOrNaN_drumTerm (hd.imp_left fun ⟨_, _, hhihat⟩ => hhihat)))

/-- Settles O31: every term of the sum is a product with one of the two gains. -/
theorem zeroGainsSilenceTheOutput : Obligations.ZeroGainsSilenceTheOutput := by
  intro s hsynth hmaster
  refine ⟨_, exec_tick s, ?_⟩
  rw [State.sampleDone_toEngineState, State.onEngine_toEngineState, tickWith_out]
  exact isZero_mixOut (.inr (.inl hsynth)) (.inr (.inl hmaster))

/-! ### The voice with its envelope at zero (R153, R198, R199) -/

/-- A zero envelope stays a zero, under every coefficient and floor: a product that is a NaN is guarded
(R155). -/
theorem isZero_envelopeStep (t : Tuning F32) {v : F32} (hv : isZero v = true) (c : F32) :
    isZero (envelopeStep hardware t v c) = true := by
  rcases envelopeStep_cases t v c with h | ⟨hfin, h⟩
  · rw [h]
    exact isZero_zero
  · rw [h]
    exact isZero_iff.2
      ((zeroOrNaN_mul (.inl (.inl hv))).mag_eq_zero (F32.not_isNaN_of_isFinite hfin))

theorem zeroOrNaN_amplify (t : Tuning F32) (accentLevel f : F32) {e : F32} (he : ZeroOrNaN e) :
    ZeroOrNaN (amplify hardware t accentLevel f e) :=
  zeroOrNaN_mul (.inl (zeroOrNaN_mul (.inr he)))

/-- DST passes silence (R187, R189). -/
theorem zeroOrNaN_distort (d : F32) {x : F32} (hx : ZeroOrNaN x) :
    ZeroOrNaN (distort hardware d x) := by
  have hshaped : ZeroOrNaN (shaped hardware d x) :=
    zeroOrNaN_div (zeroOrNaN_tanh _ (zeroOrNaN_mul (.inr hx))) _
  rw [distort_hardware]
  exact zeroOrNaN_add (zeroOrNaN_mul (.inl hx)) (zeroOrNaN_mul (.inl hshaped))

/-- R198: from a zero envelope the render makes a silent sample and leaves a zero envelope. -/
theorem renderVoice_of_isZero (p : Params F32) (c : ConfigRegs F32) {v : VoiceRegs F32}
    (hv : isZero v.envValue = true) :
    ZeroOrNaN (renderVoice hardware p c v).1 ∧
      isZero (renderVoice hardware p c v).2.envValue = true := by
  have henv := isZero_envelopeStep p.tuning hv v.decayCoef
  rw [← (renderVoice_envelope hardware p c v).1] at henv
  exact ⟨zeroOrNaN_distort _ (zeroOrNaN_amplify _ _ _ (.inl henv)), henv⟩

end Sys2Proof.Machine
end

section
/-! PROOFS. Every port entry completes (60_exceptions.md R290), nothing on the port holds the state (R305),
and a reset gives the reset state (70_reset_and_hazards.md R320, R321). -/

namespace Sys2Proof.Machine

/-- Settles O2: the idle step ends the pulses alone. -/
theorem idleStepHoldsTheState : Obligations.IdleStepHoldsTheState := by
  intro s hport
  rw [step_idle hport, State.accept, ← hport]

/-- R290: a word that decodes is performed, any other is ignored. -/
theorem exists_performWord_eq_next (w : CmdWord) (s : State) : ∃ t, performWord w s = .next t := by
  cases hdecode : decode w with
  | error reason => exact ⟨s, by rw [performWord, hdecode]⟩
  | ok i => exact ⟨_, (performWord_of_decode hdecode s).trans (exec_eq_afterCommand i s)⟩

theorem resetStep_of_admitted {sr : F32} (h : sampleRateAdmitted sr = true) (s : State)
    (rest : List PortEvent) : resetStep s sr rest = .next (s.resetTo sr rest) := if_pos h

theorem resetStep_of_not_admitted {sr : F32} (h : sampleRateAdmitted sr = false) (s : State)
    (rest : List PortEvent) : resetStep s sr rest = .refused (.sampleRateNotAdmitted sr) :=
  if_neg (by rw [h]; decide)

/-- Settles O4, by what stands first on the port. -/
theorem everyCommandWordCompletes : Obligations.EveryCommandWordCompletes := by
  refine ⟨exists_performWord_eq_next, fun s hrefused => ?_⟩
  match hport : s.port with
  | [] => exact ⟨_, step_idle hport⟩
  | .command w :: rest =>
    rw [step_command hport]
    exact exists_performWord_eq_next w _
  | .reset sr :: rest =>
    have hsr : sampleRateAdmitted sr = true := by simpa [resetRefused, hport] using hrefused
    exact ⟨_, (step_reset hport).trans (resetStep_of_admitted hsr s rest)⟩

/-- R46: the voice registers are `+0.0`, and the gate is 0. -/
theorem resetVoice_hardware :
    resetVoice hardware =
      { phase := 0#32, freqCurrent := 0#32, freqTarget := 0#32, gate := false, envValue := 0#32,
        decayCoef := 0#32, y1 := 0#32, y2 := 0#32, y3 := 0#32, accentLevel := 0#32 } := by
  simp only [resetVoice, hardware_zero]

/-- R46: `current_step` is -1. -/
theorem toInt_rewound : (BitVec.ofInt 5 (-1)).toInt = -1 := by decide

/-- Settles O5: the state of R46 at the new rate, the environment's record kept. -/
theorem resetGivesTheResetState : Obligations.ResetGivesTheResetState := by
  intro s sr rest hport
  rw [step_reset hport]
  refine ⟨fun hsr => resetStep_of_not_admitted hsr s rest, fun hsr =>
    ⟨_, resetStep_of_admitted hsr s rest, rfl, resetVoice_hardware, rfl, rfl, toInt_rewound,
      stepLength_hardware _ _ _, hardware_zero, rfl, rfl, rfl, fun k => Vector.getElem_replicate _,
      fun k => Vector.getElem_replicate _, hardware_zero, rfl, rfl, rfl, rfl, rfl, rfl⟩⟩

end Sys2Proof.Machine
end

section
/-! PROOFS. What every `TICK` emits (47_mixer.md R270 to R274): the limiter, the sanitised drum samples, the
frame. -/

namespace Sys2Proof.Machine

/-- Settles O29: the limiter's cases, and its range. -/
theorem limiterClipsHard : Obligations.LimiterClipsHard :=
  fun x => ⟨mixLimit_hardware x, inOutRange_mixLimit x⟩

/-- A value in the range of `out` is no NaN (R47). -/
theorem isNaN_of_inOutRange {x : F32} (h : inOutRange x = true) : F32.isNaN x = false := by
  rw [inOutRange, Bool.and_eq_true] at h
  exact (F32.le_iff.1 h.2).1

/-- Settles O24: the frame of `TICK` on the groups of R20, and the range of the limiter. -/
theorem tickEmitsOneBoundedSample : Obligations.TickEmitsOneBoundedSample := by
  intro s
  have hrange : inOutRange (afterCommand .tick s).out = true := by
    rw [afterCommand_tick, tickWith_out]
    exact inOutRange_mixLimit _
  refine ⟨_, exec_eq_afterCommand .tick s, ?_, isNaN_of_inOutRange hrange, hrange, ?_⟩
  all_goals rw [afterCommand_tick, tickWith_eq_emit]
  · exact BitVec.toNat_add _ _
  · rfl

/-- R273 is applied to the answers before they are used: `TICK` takes of the drum voices what sanitising
leaves of them. -/
theorem tickWith_congr_sanitize {α : Type} (N : NumSys α) {oracle oracle' : DrumOracle α}
    (h : ∀ trig, sanitizeDrums N (oracle trig) = sanitizeDrums N (oracle' trig)) (e : EngineState α) :
    tickWith N oracle e = tickWith N oracle' e := by
  rw [tickWith_eq_emit, tickWith_eq_emit, h]

theorem sanitize_hardware (x : F32) :
    sanitize hardware x = if F32.isFinite x = true then x else 0x00000000#32 := by
  rw [sanitize, hardware_isFinite, hardware_zero]

theorem isFinite_sanitize (x : F32) : F32.isFinite (sanitize hardware x) = true := by
  rw [sanitize_hardware]
  split
  · assumption
  · exact isFinite_zero

theorem sanitizeDrums_sanitizeDrums (d : DrumSamples F32) :
    sanitizeDrums hardware (sanitizeDrums hardware d) = sanitizeDrums hardware d := by
  have hself : ∀ x, sanitize hardware (sanitize hardware x) = sanitize hardware x :=
    fun x => if_pos (isFinite_sanitize x)
  simp only [sanitizeDrums, hself]

/-- The drum voices answer with the samples that stand at their ports, if any do (log 5). -/
theorem drumOracle_of_cons {s : State} {d : DrumSamples F32} {rest : List (DrumSamples F32)}
    (h : s.drumIn = d :: rest) : s.drumOracle = fun _ => d := by
  funext trig
  rw [State.drumOracle, h]

/-- A `TICK` with given drum samples. -/
theorem exec_tick_of_given (s : State) (d : DrumSamples F32) (rest : List (DrumSamples F32)) :
    exec .tick { s with drumIn := d :: rest } =
      .next { s with
        toEngineState := tickWith hardware (fun _ => d) s.toEngineState
        outValid := true
        drumIn := rest
        trigHistory := (tickWith hardware (fun _ => d) s.toEngineState).trig :: s.trigHistory } := rfl

/-- Settles O30: sanitising a second time changes nothing. -/
theorem drumSamplesAreSanitised : Obligations.DrumSamplesAreSanitised := by
  intro s d rest
  have htick : tickWith hardware (fun _ => d) s.toEngineState =
      tickWith hardware (fun _ => sanitizeDrums hardware d) s.toEngineState :=
    tickWith_congr_sanitize hardware (fun _ => (sanitizeDrums_sanitizeDrums d).symm) _
  simp only [← sanitize_hardware]
  rw [exec_tick_of_given, exec_tick_of_given, htick]
  rfl

end Sys2Proof.Machine
end

section
/-! PROOFS. Streams of commands: buffers (47_mixer.md R280), what the outputs depend on
(70_reset_and_hazards.md R329), and the silence of an idle voice (R281, R322). -/

namespace Sys2Proof.Machine

/-! ### Streams one after another (R66, R280) -/

theorem runStream_append (cs ds : List Instr) (s : State) :
    runStream (cs ++ ds) s = runStream ds (runStream cs s) := by
  induction cs generalizing s with
  | nil => rfl
  | cons i cs ih => exact ih _

theorem streamSamples_append (cs ds : List Instr) (s : State) :
    streamSamples (cs ++ ds) s = streamSamples cs s ++ streamSamples ds (runStream cs s) := by
  induction cs generalizing s with
  | nil => rfl
  | cons i cs ih =>
    rw [List.cons_append, streamSamples_cons, streamSamples_cons, ih, List.append_assoc, runStream]

/-- A `TICK` makes one sample, `out`. -/
theorem outputs_performCommand_tick (s : State) :
    (performCommand .tick s).outputs.sample = some (performCommand .tick s).out := rfl

/-- No other command makes a sample. -/
theorem outputs_performCommand_of_ne_tick {i : Instr} (hi : i ≠ .tick) (s : State) :
    (performCommand i s).outputs.sample = none := by
  cases i with
  | tick => exact absurd rfl hi
  | _ => rfl

theorem length_streamSamples (cs : List Instr) (s : State) :
    (streamSamples cs s).length = cs.count .tick := by
  induction cs generalizing s with
  | nil => rfl
  | cons i cs ih =>
    rw [streamSamples_cons, List.length_append, ih]
    by_cases hi : i = .tick
    · rw [hi, outputs_performCommand_tick, List.count_cons_self, Option.toList_some,
        List.length_singleton, Nat.add_comm]
    · rw [outputs_performCommand_of_ne_tick hi, List.count_cons_of_ne hi, Option.toList_none,
        List.length_nil, Nat.zero_add]

theorem processBuffer_add (a b : Nat) : processBuffer (a + b) = processBuffer a ++ processBuffer b :=
  List.replicate_add a b Instr.tick

/-- Settles O55: each `TICK` makes one sample, and a longer buffer is one buffer after another. -/
theorem buffersConcatenate : Obligations.BuffersConcatenate := by
  intro a b s
  rw [processBuffer_add]
  exact ⟨(length_streamSamples _ s).trans List.count_replicate_self, streamSamples_append _ _ s,
    runStream_append _ _ s⟩

/-! ### The given drum answers (R232, log 5) -/

/-- Each `TICK` takes one triple of the samples at the ports; no other command takes any. -/
theorem performCommand_drumIn (i : Instr) (s : State) :
    (performCommand i s).drumIn = if i = .tick then s.drumIn.tail else s.drumIn := by
  cases i <;> rfl

/-- While a stream has an answer for each of its `TICK`s, its first `TICK` has one, and the rest of the
stream has them after the first command. -/
theorem answers_cons {i : Instr} {cs : List Instr} {s : State}
    (h : (i :: cs).count .tick ≤ s.drumIn.length) :
    (i = .tick → s.drumIn ≠ []) ∧ cs.count .tick ≤ (performCommand i s).drumIn.length := by
  rw [performCommand_drumIn]
  by_cases hi : i = .tick
  · subst hi
    rw [List.count_cons_self] at h
    rw [if_pos rfl, List.length_tail]
    exact ⟨fun _ => List.ne_nil_of_length_pos (by omega), by omega⟩
  · rw [List.count_cons_of_ne hi] at h
    rw [if_neg hi]
    exact ⟨fun htick => absurd htick hi, h⟩

/-! ### What the free drum answers depend on (R329) -/

/-- The state with another record of what the free drum answers depend on. -/
def State.withEnvironment (s : State) (environment : Nat) (history : List (BitVec 4)) : State :=
  { s with drumEnv := environment, trigHistory := history }

theorem outputs_withEnvironment (s : State) (environment : Nat) (history : List (BitVec 4)) :
    (s.withEnvironment environment history).outputs = s.outputs := rfl

/-- With an answer given for it, a command reads none of the record, and only adds to the history. -/
theorem performCommand_withEnvironment (i : Instr) {s : State} (hi : i = .tick → s.drumIn ≠ [])
    (environment : Nat) (history : List (BitVec 4)) :
    ∃ history', performCommand i (s.withEnvironment environment history) =
      (performCommand i s).withEnvironment environment history' := by
  cases i with
  | tick =>
    obtain ⟨d, rest, hd⟩ := List.exists_cons_of_ne_nil (hi rfl)
    have hgiven : (s.accept s.port).drumOracle = fun _ => d := drumOracle_of_cons hd
    have hother : ((s.accept s.port).withEnvironment environment history).drumOracle = fun _ => d :=
      drumOracle_of_cons hd
    refine ⟨(tickWith hardware (fun _ => d) s.toEngineState).trig :: history, ?_⟩
    calc performCommand .tick (s.withEnvironment environment history)
      _ = afterCommand .tick ((s.accept s.port).withEnvironment environment history) := rfl
      _ = (performCommand .tick s).withEnvironment environment _ := by
        rw [performCommand, afterCommand_tick, afterCommand_tick, hgiven, hother]
        rfl
  | _ => exact ⟨history, rfl⟩

/-- Settles O54: the record stays apart from the outputs along the stream. -/
theorem outputsAreDeterministic : Obligations.OutputsAreDeterministic := by
  intro cs
  induction cs with
  | nil => exact fun _ _ _ _ => rfl
  | cons i cs ih =>
    intro s environment history hcount
    obtain ⟨hfirst, hrest⟩ := answers_cons hcount
    obtain ⟨history', hnext⟩ := performCommand_withEnvironment i hfirst environment history
    calc streamOutputs (i :: cs) (s.withEnvironment environment history)
      _ = (performCommand i s).outputs ::
          streamOutputs cs ((performCommand i s).withEnvironment environment history') := by
        rw [streamOutputs, hnext, outputs_withEnvironment]
      _ = streamOutputs (i :: cs) s := congrArg _ (ih _ environment history' hrest)

/-! ### Silence (R281, R322) -/

/-- The answer of idle drum voices (DRUM-IDLE, R232). -/
def idleDrums : DrumSamples F32 := ⟨0#32, 0#32, 0#32⟩

/-- The sequencer is stopped, the envelope is at zero, and the next `n` drum answers are idle ones. -/
structure Idle (n : Nat) (s : State) : Prop where
  stopped : s.seq.running = false
  level : isZero s.voice.envValue = true
  drums : ∃ rest, s.drumIn = List.replicate n idleDrums ++ rest

theorem sanitizeDrums_idleDrums : sanitizeDrums hardware idleDrums = idleDrums := by
  simp [sanitizeDrums, idleDrums, sanitize_hardware, isFinite_zero]

/-- Idle drum voices answer an idle machine's `TICK`. -/
theorem Idle.drumOracle {n : Nat} {s : State} (h : Idle (n + 1) s) :
    s.drumOracle = fun _ => idleDrums := by
  obtain ⟨rest, hrest⟩ := h.drums
  exact drumOracle_of_cons hrest

/-- An idle machine stays idle over a `TICK`, which makes a zero sample: SEQ plays no note, the voice is
silent, and so are the drums. -/
theorem Idle.tick {n : Nat} {s : State} (h : Idle (n + 1) s) :
    Idle n (performCommand .tick s) ∧ isZero (performCommand .tick s).out = true := by
  have hseq : seqTick hardware s.params s.cr.tempoBpm s.seq = (none, s.seq) := by
    rw [seqTick, if_neg (by rw [h.stopped]; decide)]
  have hvoice : (sequence hardware s.toEngineState).2.voice = s.voice := by
    rw [sequence_of_none hardware s.toEngineState (congrArg Prod.fst hseq), EngineState.setSeq_voice]
  obtain ⟨hsample, hlevel⟩ := renderVoice_of_isZero s.params s.cr h.level
  obtain ⟨rest, hrest⟩ := h.drums
  have horacle : (s.accept s.port).drumOracle = fun _ => idleDrums := h.drumOracle
  refine ⟨⟨?_, ?_, rest, ?_⟩, ?_⟩
  · rw [performCommand_tick_seq, hseq]
    exact h.stopped
  · rw [performCommand, afterCommand_tick, tickWith_voice, State.accept_toEngineState, hvoice]
    exact hlevel
  · rw [performCommand_drumIn, if_pos rfl, hrest]
    rfl
  · rw [performCommand, afterCommand_tick, tickWith_out, State.accept_toEngineState, hvoice, horacle,
      sanitizeDrums_idleDrums]
    exact isZero_mixOut (.inl hsample) (.inl ⟨.inl isZero_zero, .inl isZero_zero, .inl isZero_zero⟩)

/-- Every command but `TICK`, `NOTE_ON` and `START` leaves an idle machine idle: none starts SEQ, and none
writes the envelope. -/
theorem CommandEffect.keeps_idle {n : Nat} {s t : State} {i : Instr} (h : CommandEffect s i t)
    (htick : i ≠ .tick) (hnote : i.mnemonic ≠ "NOTE_ON") (hstart : i.mnemonic ≠ "START")
    (hs : Idle n s) : Idle n t := by
  cases h with
  | tick => exact absurd rfl htick
  | noteOn => exact absurd rfl hnote
  | start => exact absurd rfl hstart
  | stop => exact ⟨rfl, hs.level, hs.drums⟩
  | _ => exact ⟨hs.stopped, hs.level, hs.drums⟩

/-- The samples of an idle machine, while the idle drum answers last. -/
theorem Idle.samples {cs : List Instr} {n : Nat} {s : State} (h : Idle n s)
    (hcount : cs.count .tick ≤ n)
    (hcs : ∀ i ∈ cs, i.mnemonic ≠ "NOTE_ON" ∧ i.mnemonic ≠ "START") :
    ∀ x ∈ streamSamples cs s, isZero x = true := by
  induction cs generalizing n s with
  | nil => exact fun x hx => absurd hx List.not_mem_nil
  | cons i cs ih =>
    obtain ⟨hfirst, hrest⟩ := List.forall_mem_cons.1 hcs
    intro x hx
    rw [streamSamples_cons, List.mem_append] at hx
    by_cases hi : i = .tick
    · subst hi
      rw [List.count_cons_self] at hcount
      obtain ⟨m, rfl⟩ : ∃ m, n = m + 1 := ⟨n - 1, by omega⟩
      obtain ⟨hidle, hzero⟩ := h.tick
      rw [outputs_performCommand_tick, Option.toList_some, List.mem_singleton] at hx
      rcases hx with rfl | hx
      · exact hzero
      · exact ih hidle (by omega) hrest x hx
    · rw [List.count_cons_of_ne hi] at hcount
      rw [outputs_performCommand_of_ne_tick hi, Option.toList_none] at hx
      have hidle : Idle n (performCommand i s) :=
        (performCommand_effect i s).keeps_idle hi hfirst.1 hfirst.2 ⟨h.stopped, h.level, h.drums⟩
      exact ih hidle hcount hrest x (hx.resolve_left List.not_mem_nil)

/-- Settles O32. A stopped machine with a zero envelope is silent in every state, so that of the legality of
the state nothing is needed. -/
theorem idleVoiceIsSilent : Obligations.IdleVoiceIsSilent :=
  fun _ _ _ rest _ hstopped hlevel hdrums hcount hcs =>
    Idle.samples ⟨hstopped, hlevel, rest, hdrums⟩ hcount hcs

end Sys2Proof.Machine
end
